-- ==== Sys2Proof/Word.lean ====
section
/-! DEFINITION. The widths of the block's data: a byte, a port word, the byte counter (spec R5, R13, R41). -/

namespace Sys2Proof

/-- The unit of data, 8 bits (R41). -/
abbrev Byte := BitVec 8

/-- A command word, a response word, or the CRC register: 16 bits (R5, R60, R61). -/
abbrev Word := BitVec 16

/-- The byte counter CNT, 9 bits (R13). -/
abbrev Count := BitVec 9

end Sys2Proof
end

