-- ==== Sys2Proof/Config.lean ====
section
/-! DEFINITION. The constants the spec fixes (R5) and the default of its one parameter MYADDR (R6).
The spec leaves no value of the block free (R216), so there is no opaque constant here. -/

namespace Sys2Proof.Config

/-- CRC_INIT (R5). -/
abbrev crcInit : Word := 0xFFFF
/-- CRC_POLY, the constant XORed in after a right shift when the bit shifted out is 1 (R5, R90). -/
abbrev crcPoly : Word := 0xA001
/-- MIN_FRAME, in bytes (R5). -/
abbrev minFrame : Nat := 4
/-- MAX_PAYLOAD, in bytes (R5). -/
abbrev maxPayload : Nat := 252
/-- MAX_PDU, in bytes: one function byte and the payload (R5). -/
abbrev maxPdu : Nat := 253
/-- MAX_FRAME, in bytes: address byte, PDU, two CRC bytes (R5). -/
abbrev maxFrame : Nat := 256
/-- The value at which CNT saturates, "257 or more" (R13). -/
abbrev cntMax : Nat := 257
/-- The exception bit of the function byte (R5, R70). -/
abbrev exceptionFlag : Byte := 0x80
/-- The function-code mask (R5, R70). -/
abbrev functionMask : Byte := 0x7F
/-- The broadcast address, never accepted (R5, R47). -/
abbrev broadcast : Byte := 0x00
/-- The default of the parameter MYADDR (R6). DESIGN CHOICE (log 1): the parameter stands in the field `myAddr` of State, so every
value of it is covered. Safe for statements over every state; unsafe for a statement about State.reset alone. -/
abbrev defaultMyAddr : Byte := 0x01

end Sys2Proof.Config
end

