-- ==== Sys2Proof/Machine/Crc.lean ====
section
/-! DEFINITION. The CRC-16 arithmetic of 40_crc_arithmetic.md: `crc_shift`, `crc_upd`, `crc16`, `lo`, `hi`. -/

namespace Sys2Proof.Machine

/-- `crc_shift`, one bit step (R90). -/
def crcShift (r : Word) : Word :=
  if r.getLsbD 0 then (r >>> 1) ^^^ Config.crcPoly else r >>> 1

/-- `crc_upd`, one byte step: the byte into the low byte, then eight shifts (R91). -/
def crcUpd (r : Word) (b : Byte) : Word :=
  let r0 := r ^^^ b.setWidth 16
  crcShift (crcShift (crcShift (crcShift (crcShift (crcShift (crcShift (crcShift r0)))))))

/-- `crc16` of a byte sequence (R92); nothing is done to the result (R93). -/
def crc16 (bytes : List Byte) : Word :=
  bytes.foldl crcUpd Config.crcInit

/-- `lo(v) = v[7:0]` (R100). -/
def lo (v : Word) : Byte := v.extractLsb' 0 8

/-- `hi(v) = v[15:8]` (R100). -/
def hi (v : Word) : Byte := v.extractLsb' 8 8

/-- The value of two trailing CRC bytes, the earlier one `t0` being the low byte: `t1 : t0` (R42, R100). -/
def joinBytes (t1 t0 : Byte) : Word := t1 ++ t0

/-- The two CRC bytes in wire order, low byte first (R42, R100). -/
def crcBytes (c : Word) : List Byte := [lo c, hi c]

end Sys2Proof.Machine
end

