-- ==== Sys2Proof/Machine/State.lean ====
section
/-! DEFINITION. The sixteen registers of R10, the model's own three fields (MYADDR, the inputs, the responses), the reset state
(R27), and the reasons a step could stop, of which the spec gives none (R216). -/

namespace Sys2Proof.Machine

/-- The values of MODE (R14). DESIGN CHOICE (log 8): a type of four names for a register of two bits whose four values are all
named. Safe. -/
inductive Mode where
  | idle
  | gen
  | gent
  | chk
  deriving DecidableEq, Repr

/-- The values of FTYPE (R18). No command writes RESPONSE; the register's type has it (93_implementation_defined.md E5). -/
inductive FrameType where
  | none
  | request
  | response
  | exception
  deriving DecidableEq, Repr

/-- The result of VEND (R66, R143). -/
inductive Verdict where
  | ok
  | short
  | long
  | badcrc
  | notme
  deriving DecidableEq, Repr

/-- The two misuse errors of the command port (R67, R201). -/
inductive ErrCode where
  | ill
  | seq
  deriving DecidableEq, Repr

/-- What a step puts on the response port, before it is laid out as a word (R61). -/
inductive Response where
  | ack
  | wire (d : Byte)
  | pay (d : Byte)
  | verd (v : Verdict)
  | val (d : Byte)
  | err (e : ErrCode)
  deriving DecidableEq, Repr

/-- One thing the host does at the block's ports (R40): present a command word, or pulse the reset input.
DESIGN CHOICE (log 5): asserting and releasing reset is one event. -/
inductive PortEvent where
  | command (w : Word)
  | reset
  deriving DecidableEq, Repr

/-- The block's state, R10, and beside it the model's own `myAddr`, `inputs` and `responses`. -/
structure State where
  /-- CRC (R11) -/
  crc : Word
  /-- H0, the newest received byte (R12) -/
  h0 : Byte
  /-- H1, the received byte before H0 (R12) -/
  h1 : Byte
  /-- CNT, bytes received in this frame, saturating at 257 (R13) -/
  cnt : Count
  /-- MODE (R14) -/
  mode : Mode
  /-- ADDR, byte 0 of the received frame (R15) -/
  addr : Byte
  /-- FCB, byte 1 of the received frame (R16) -/
  fcb : Byte
  /-- B2, byte 2 of the received frame (R17) -/
  b2 : Byte
  /-- FTYPE (R18) -/
  ftype : FrameType
  /-- PLEN (R19) -/
  plen : Byte
  /-- F_SHORT (R20) -/
  fShort : Bool
  /-- F_LONG (R20) -/
  fLong : Bool
  /-- F_CRC (R20) -/
  fCrc : Bool
  /-- F_ADDR (R20) -/
  fAddr : Bool
  /-- E_ILL, sticky (R21) -/
  eIll : Bool
  /-- E_SEQ, sticky (R21) -/
  eSeq : Bool
  /-- The parameter MYADDR (R6, R23): no register, and written by nothing. DESIGN CHOICE (log 1), safe for statements over every state. -/
  myAddr : Byte
  /-- What the host has yet to present at the ports, the next event first (R40, R48). DESIGN CHOICE (log 2), safe. -/
  inputs : List PortEvent
  /-- The words that have left the response port, the first one first (R48, R235). DESIGN CHOICE (log 4), safe. -/
  responses : List Word
  deriving DecidableEq, Repr

/-- Reasons for a fault: none. "There are no stuck, fault or any value behaviours anywhere in the block"
(93_implementation_defined.md section 3, R216). DEDUCED (log 12). Safe. -/
inductive Fault where
  deriving DecidableEq, Repr

/-- Reasons for a refusal. -/
inductive Refusal where
  /-- Raised by an arm of `exec` whose instruction has no meaning yet; no arm of this model raises it. Safe: the machine stops. -/
  | notModelled (mnemonic : String)
  deriving DecidableEq, Repr

/-- The state after reset (R27, R230), MYADDR at its default (R6), nothing presented and nothing answered yet. -/
def State.reset : State where
  crc := 0xFFFF
  h0 := 0x00
  h1 := 0x00
  cnt := 0
  mode := .idle
  addr := 0x00
  fcb := 0x00
  b2 := 0x00
  ftype := .none
  plen := 0x00
  fShort := false
  fLong := false
  fCrc := false
  fAddr := false
  eIll := false
  eSeq := false
  myAddr := Config.defaultMyAddr
  inputs := []
  responses := []

end Sys2Proof.Machine
end

