-- ==== Sys2Proof/Syntax.lean ====
section
/-! DEFINITION. The eighteen commands (R62), the four pseudo-instructions (R73) and the envelope arguments of `rtu_encode` (R181). -/

namespace Sys2Proof

/-- The commands of R62, one constructor per row of spec/opcode_table.json. The operand `d` is the data byte `cmd[7:0]` (R60). -/
inductive Instr where
  /-- NOP (R111) -/
  | nop
  /-- CLR (R112) -/
  | clr
  /-- GBEG (R120) -/
  | gbeg
  /-- GBYTE d (R121) -/
  | gbyte (d : Byte)
  /-- GEXC d (R122) -/
  | gexc (d : Byte)
  /-- GCRL (R123) -/
  | gcrl
  /-- GCRH (R124) -/
  | gcrh
  /-- VBEG (R140) -/
  | vbeg
  /-- VBYTE d (R141) -/
  | vbyte (d : Byte)
  /-- VEND (R142) -/
  | vend
  /-- RDST (R160) -/
  | rdst
  /-- RDADDR (R161) -/
  | rdaddr
  /-- RDFC (R162) -/
  | rdfc
  /-- RDEXC (R163) -/
  | rdexc
  /-- RDTYP (R164) -/
  | rdtyp
  /-- RDLEN (R165) -/
  | rdlen
  /-- RDCRL (R166) -/
  | rdcrl
  /-- RDCRH (R167) -/
  | rdcrh
  deriving DecidableEq, Repr

/-- The pseudo-instructions of R73, each standing for a fixed sequence of commands. -/
inductive Pseudo where
  /-- `GFRAME b0 ... bk`: generate the frame whose bytes before the CRC are these. -/
  | gframe (bytes : List Byte)
  /-- `GXFRAME a f e`: generate the exception frame with this address, function code and exception code. -/
  | gxframe (a f e : Byte)
  /-- `VFRAME b0 ... bk`: verify this received frame, CRC bytes included. -/
  | vframe (bytes : List Byte)
  /-- `CRC16 b0 ... bk`: compute the CRC and read it without ending the frame. -/
  | crc16 (bytes : List Byte)
  deriving DecidableEq, Repr

/-- The arguments of `rtu_encode` (R181): address byte, exception flag, function code, and the body (the payload of a normal
frame, the one byte `[exc]` of an exception frame). -/
structure FrameSpec where
  addr : Byte
  exception : Bool
  fc : Byte
  body : List Byte
  deriving DecidableEq, Repr

end Sys2Proof
end

