-- ==== Sys2Proof/Machine/Operands.lean ====
section
/-! DEFINITION. The forms data takes at the ports: register codes, response words (R61, R66, R67), the function byte (R70), the
saturating count (R13), and the MODE each command requires (R62). -/

namespace Sys2Proof.Machine

/-- The 2-bit code of MODE (R14). -/
def modeCode : Mode → BitVec 2
  | .idle => 0
  | .gen => 1
  | .gent => 2
  | .chk => 3

/-- The 2-bit code of FTYPE (R18). -/
def frameTypeCode : FrameType → BitVec 2
  | .none => 0
  | .request => 1
  | .response => 2
  | .exception => 3

/-- Verdict codes (R66). -/
def verdictCode : Verdict → Byte
  | .ok => 0x01
  | .short => 0x02
  | .long => 0x03
  | .badcrc => 0x04
  | .notme => 0x05

/-- Error codes (R67). -/
def errCode : ErrCode → Byte
  | .ill => 0x01
  | .seq => 0x02

/-- The kind byte of a response (R61). -/
def responseKind : Response → Byte
  | .ack => 0x00
  | .wire _ => 0x01
  | .pay _ => 0x02
  | .verd _ => 0x03
  | .val _ => 0x04
  | .err _ => 0x0F

/-- The data byte of a response (R61). -/
def responseData : Response → Byte
  | .ack => 0x00
  | .wire d => d
  | .pay d => d
  | .verd v => verdictCode v
  | .val d => d
  | .err e => errCode e

/-- The response word: kind in `rsp[15:8]`, data in `rsp[7:0]` (R61). -/
def responseWord (r : Response) : Word := responseKind r ++ responseData r

/-- The function byte of an exception frame, `d | 0x80` (R70, R122). -/
def markException (d : Byte) : Byte := d ||| Config.exceptionFlag

/-- The function code of a function byte, exception bit masked off (R70, R162). -/
def functionCode (fb : Byte) : Byte := fb &&& Config.functionMask

/-- The exception bit of a function byte (R16, R70). -/
def exceptionBit (fb : Byte) : Bool := fb.getLsbD 7

/-- `min(k + 1, 257)`, which never wraps (R13, R141 (e)). DEDUCED (log 7): the sum is taken as a number, also for the values 258 to
511 of CNT that no run reaches. Safe. -/
def countUp (k : Count) : Count := BitVec.ofNat 9 (min (k.toNat + 1) Config.cntMax)

/-- The MODE a command requires, `none` for "any" (R62, R110). -/
def requiredMode : Instr → Option Mode
  | .nop => none
  | .clr => none
  | .gbeg => none
  | .gbyte _ => some .gen
  | .gexc _ => some .gen
  | .gcrl => some .gen
  | .gcrh => some .gent
  | .vbeg => none
  | .vbyte _ => some .chk
  | .vend => some .chk
  | .rdst => none
  | .rdaddr => none
  | .rdfc => none
  | .rdexc => none
  | .rdtyp => none
  | .rdlen => none
  | .rdcrl => none
  | .rdcrh => none

end Sys2Proof.Machine
end

