-- ==== Sys2Proof/Machine/Flags.lean ====
section
/-! DEFINITION. Every flag computation of the spec: the four result flags (R20), the verdict (R143), FTYPE (R18), PLEN (R19), STATUS (R22). -/

namespace Sys2Proof.Machine

/-- F_SHORT (R20). -/
def flagShort (n : Nat) : Bool := decide (n < Config.minFrame)

/-- F_LONG (R20). -/
def flagLong (n : Nat) : Bool := decide (n > Config.maxFrame)

/-- F_CRC (R20): no CRC field, or the computed CRC differs from the expected one. -/
def flagCrc (n : Nat) (computed expected : Word) : Bool := decide (n < 2) || computed != expected

/-- F_ADDR (R20): no address byte, or not this station's, or the broadcast address. -/
def flagAddr (n : Nat) (addr myAddr : Byte) : Bool := decide (n < 1) || addr != myAddr || addr == Config.broadcast

/-- The verdict: the first flag set, in the document's order of checks (R143). -/
def verdict (fs fl fc fa : Bool) : Verdict :=
  if fs then .short
  else if fl then .long
  else if fc then .badcrc
  else if fa then .notme
  else .ok

/-- FTYPE as VEND writes it (R18, R142). -/
def frameTypeOf (v : Verdict) (fcb : Byte) : FrameType :=
  if v ≠ .ok then .none else if exceptionBit fcb then .exception else .request

/-- PLEN as VEND writes it, from the length alone (R19, R142). -/
def payloadLength (n : Nat) : Byte :=
  if Config.minFrame ≤ n ∧ n ≤ Config.maxFrame then BitVec.ofNat 8 (n - Config.minFrame) else 0x00

/-- STATUS: MODE, E_SEQ, E_ILL, F_ADDR, F_CRC, F_LONG, F_SHORT from bit 7 down (R22). -/
def statusByte (s : State) : Byte :=
  modeCode s.mode ++ BitVec.ofBool s.eSeq ++ BitVec.ofBool s.eIll ++ BitVec.ofBool s.fAddr ++ BitVec.ofBool s.fCrc
    ++ BitVec.ofBool s.fLong ++ BitVec.ofBool s.fShort

end Sys2Proof.Machine
end

