-- ==== Sys2Proof/Machine/Ops.lean ====
section
/-! DEFINITION. The named operations the commands share: responding (R61), `raise Err` (R201), the mode check (R110), clearing
(R112, R140, R230), the CRC register (R11), the verifier's intake (R141) and judgement (R142). -/

namespace Sys2Proof.Machine

/-- `respond`: put one response word on the response port (R8, R61). -/
def respond (r : Response) (s : State) : State :=
  { s with responses := s.responses ++ [responseWord r] }

/-- Set the sticky flag that belongs to an error code (R21, R201). -/
def setSticky (e : ErrCode) (s : State) : State :=
  match e with
  | .ill => { s with eIll := true }
  | .seq => { s with eSeq := true }

/-- `raise Err(code)`, the block's only exception: the sticky flag, the ERR response, and nothing else (R8, R201). It is no trap:
nothing is saved and no control moves, so there is no return from it (R209, R210). -/
def raiseErr (e : ErrCode) (s : State) : State :=
  respond (.err e) (setSticky e s)

/-- The mode check of a step: the command executes in the mode it requires and is refused with SEQ in any other (R110, R203). -/
def requireMode (m : Mode) (execute : State → State) (s : State) : Host.Outcome State Fault Refusal :=
  if s.mode = m then .next (execute s) else .next (raiseErr .seq s)

/-- Write MODE (R14, R113). -/
def setMode (m : Mode) (s : State) : State := { s with mode := m }

/-- Write CRC (R11). -/
def setCrc (c : Word) (s : State) : State := { s with crc := c }

/-- Absorb a byte into the CRC register (R11, R91). -/
def absorb (b : Byte) (s : State) : State := setCrc (crcUpd s.crc b) s

/-- What CLR and VBEG clear: every register but MODE and the sticky flags to its reset value (R112, R140). -/
def clearFrame (s : State) : State :=
  { s with
    crc := Config.crcInit, h0 := 0x00, h1 := 0x00, cnt := 0,
    addr := 0x00, fcb := 0x00, b2 := 0x00,
    ftype := .none, plen := 0x00,
    fShort := false, fLong := false, fCrc := false, fAddr := false }

/-- The reset operation: every piece of state at the value of R27, the sticky flags too, and no response word (R230). MYADDR, what
the host will present and what it was answered are not state of the block. -/
def resetBlock (s : State) : State :=
  { State.reset with myAddr := s.myAddr, inputs := s.inputs, responses := s.responses }

/-- The verifier's intake of the byte `d`, every right-hand side reading the old state (R141 (a), (c), (d), (e)). -/
def takeByte (d : Byte) (s : State) : State :=
  { s with
    crc := if 2 ≤ s.cnt.toNat then crcUpd s.crc s.h1 else s.crc
    addr := if s.cnt.toNat = 0 then d else s.addr
    fcb := if s.cnt.toNat = 1 then d else s.fcb
    b2 := if s.cnt.toNat = 2 then d else s.b2
    h1 := s.h0
    h0 := d
    cnt := countUp s.cnt }

/-- The response of VBYTE: the byte two places old, once it is known to be payload (R141 (b)). -/
def byteResponse (s : State) : Response :=
  if 4 ≤ s.cnt.toNat then .pay s.h1 else .ack

/-- F_SHORT of the frame received so far (R142). -/
def frameShort (s : State) : Bool := flagShort s.cnt.toNat

/-- F_LONG of the frame received so far (R142). -/
def frameLong (s : State) : Bool := flagLong s.cnt.toNat

/-- F_CRC of the frame received so far: CRC against `H0 : H1` (R142). -/
def frameCrc (s : State) : Bool := flagCrc s.cnt.toNat s.crc (joinBytes s.h0 s.h1)

/-- F_ADDR of the frame received so far (R142). -/
def frameAddr (s : State) : Bool := flagAddr s.cnt.toNat s.addr s.myAddr

/-- The verdict on the frame received so far (R142, R143). -/
def frameVerdict (s : State) : Verdict := verdict (frameShort s) (frameLong s) (frameCrc s) (frameAddr s)

/-- The registers VEND writes from its judgement (R142). -/
def recordVerdict (s : State) : State :=
  { s with
    fShort := frameShort s, fLong := frameLong s, fCrc := frameCrc s, fAddr := frameAddr s,
    ftype := frameTypeOf (frameVerdict s) s.fcb, plen := payloadLength s.cnt.toNat }

end Sys2Proof.Machine
end

