-- ==== Sys2Proof/Machine/Control.lean ====
section
/-! DEFINITION. The control commands NOP and CLR (41_control.md). -/

namespace Sys2Proof.Machine

/-- NOP (R111). -/
def execNop (s : State) : Host.Outcome State Fault Refusal :=
  .next (respond .ack s)

/-- CLR (R112). -/
def execClr (s : State) : Host.Outcome State Fault Refusal :=
  .next (respond .ack (setMode .idle (clearFrame s)))

end Sys2Proof.Machine
end

