-- ==== Sys2Proof/Machine/Generate.lean ====
section
/-! DEFINITION. The generate commands GBEG, GBYTE, GEXC, GCRL, GCRH (42_generate.md). -/

namespace Sys2Proof.Machine

/-- GBEG (R120): any mode; a frame in progress is abandoned. -/
def execGbeg (s : State) : Host.Outcome State Fault Refusal :=
  .next (respond .ack (setMode .gen (setCrc Config.crcInit s)))

/-- GBYTE d (R121). -/
def execGbyte (d : Byte) (s : State) : Host.Outcome State Fault Refusal :=
  requireMode .gen (fun s => respond (.wire d) (absorb d s)) s

/-- GEXC d (R122). -/
def execGexc (d : Byte) (s : State) : Host.Outcome State Fault Refusal :=
  requireMode .gen (fun s => respond (.wire (markException d)) (absorb (markException d) s)) s

/-- GCRL (R123): the low byte, and only GCRH may follow. -/
def execGcrl (s : State) : Host.Outcome State Fault Refusal :=
  requireMode .gen (fun s => respond (.wire (lo s.crc)) (setMode .gent s)) s

/-- GCRH (R124): the high byte, and the frame is complete. -/
def execGcrh (s : State) : Host.Outcome State Fault Refusal :=
  requireMode .gent (fun s => respond (.wire (hi s.crc)) (setMode .idle s)) s

end Sys2Proof.Machine
end

