-- ==== Sys2Proof/Machine/Readout.lean ====
section
/-! DEFINITION. The eight read commands (44_readout.md): each answers VAL of one byte and changes no state (R168). -/

namespace Sys2Proof.Machine

/-- RDST: STATUS (R160). -/
def execRdst (s : State) : Host.Outcome State Fault Refusal :=
  .next (respond (.val (statusByte s)) s)

/-- RDADDR: ADDR (R161). -/
def execRdaddr (s : State) : Host.Outcome State Fault Refusal :=
  .next (respond (.val s.addr) s)

/-- RDFC: the function code, always masked (R162). -/
def execRdfc (s : State) : Host.Outcome State Fault Refusal :=
  .next (respond (.val (functionCode s.fcb)) s)

/-- RDEXC: B2 (R163). -/
def execRdexc (s : State) : Host.Outcome State Fault Refusal :=
  .next (respond (.val s.b2) s)

/-- RDTYP: FTYPE zero-extended to a byte (R164). -/
def execRdtyp (s : State) : Host.Outcome State Fault Refusal :=
  .next (respond (.val ((frameTypeCode s.ftype).setWidth 8)) s)

/-- RDLEN: PLEN (R165). -/
def execRdlen (s : State) : Host.Outcome State Fault Refusal :=
  .next (respond (.val s.plen) s)

/-- RDCRL: CRC[7:0], without touching MODE (R166). -/
def execRdcrl (s : State) : Host.Outcome State Fault Refusal :=
  .next (respond (.val (lo s.crc)) s)

/-- RDCRH: CRC[15:8], without touching MODE (R167). -/
def execRdcrh (s : State) : Host.Outcome State Fault Refusal :=
  .next (respond (.val (hi s.crc)) s)

end Sys2Proof.Machine
end

