-- ==== Sys2Proof/Machine/Verify.lean ====
section
/-! DEFINITION. The verify commands VBEG, VBYTE, VEND (43_verify.md). -/

namespace Sys2Proof.Machine

/-- VBEG (R140): any mode; a frame in progress is abandoned. -/
def execVbeg (s : State) : Host.Outcome State Fault Refusal :=
  .next (respond .ack (setMode .chk (clearFrame s)))

/-- VBYTE d (R141): the response is chosen from the state before the step. -/
def execVbyte (d : Byte) (s : State) : Host.Outcome State Fault Refusal :=
  requireMode .chk (fun s => respond (byteResponse s) (takeByte d s)) s

/-- VEND (R142): the verdict is given on the state before the step. -/
def execVend (s : State) : Host.Outcome State Fault Refusal :=
  requireMode .chk (fun s => respond (.verd (frameVerdict s)) (setMode .idle (recordVerdict s))) s

end Sys2Proof.Machine
end

