-- ==== Sys2Proof/Machine/Dispatch.lean ====
section
/-! DEFINITION. The meaning of each command, one arm per constructor of Instr. -/

namespace Sys2Proof.Machine

/-- Execute a decoded command (R110 steps 2 and 3): its mode check and its effect are its meaning. -/
def exec (i : Instr) (s : State) : Host.Outcome State Fault Refusal :=
  match i with
  | .nop => Sys2Proof.Machine.execNop s
  | .clr => Sys2Proof.Machine.execClr s
  | .gbeg => Sys2Proof.Machine.execGbeg s
  | .gbyte d => Sys2Proof.Machine.execGbyte d s
  | .gexc d => Sys2Proof.Machine.execGexc d s
  | .gcrl => Sys2Proof.Machine.execGcrl s
  | .gcrh => Sys2Proof.Machine.execGcrh s
  | .vbeg => Sys2Proof.Machine.execVbeg s
  | .vbyte d => Sys2Proof.Machine.execVbyte d s
  | .vend => Sys2Proof.Machine.execVend s
  | .rdst => Sys2Proof.Machine.execRdst s
  | .rdaddr => Sys2Proof.Machine.execRdaddr s
  | .rdfc => Sys2Proof.Machine.execRdfc s
  | .rdexc => Sys2Proof.Machine.execRdexc s
  | .rdtyp => Sys2Proof.Machine.execRdtyp s
  | .rdlen => Sys2Proof.Machine.execRdlen s
  | .rdcrl => Sys2Proof.Machine.execRdcrl s
  | .rdcrh => Sys2Proof.Machine.execRdcrh s

end Sys2Proof.Machine
end

