-- ==== Sys2Proof/WellFormed.lean ====
section
/-! DEFINITION. What is well formed before any decoding: a command (R60, R204), a command word (R64), a frame to encode (R181). -/

namespace Sys2Proof

/-- Every command is well formed: its operand, where it has one, is a byte, and "every byte 0x00 to 0xFF is acceptable to GBYTE,
GEXC and VBYTE" (R204; 93_implementation_defined.md E7). The width of the operand's type is the whole check. -/
def Instr.wellFormed : Instr → Bool
  | .nop => true
  | .clr => true
  | .gbeg => true
  | .gbyte _ => true
  | .gexc _ => true
  | .gcrl => true
  | .gcrh => true
  | .vbeg => true
  | .vbyte _ => true
  | .vend => true
  | .rdst => true
  | .rdaddr => true
  | .rdfc => true
  | .rdexc => true
  | .rdtyp => true
  | .rdlen => true
  | .rdcrl => true
  | .rdcrh => true

/-- The opcode byte is one of the 238 values that R64 (a) lists as unassigned. -/
def opcodeUnassigned (op : Byte) : Bool :=
  (0x02 ≤ op && op ≤ 0x0F) || (0x15 ≤ op && op ≤ 0x1F) || (0x23 ≤ op && op ≤ 0x2F) || 0x38 ≤ op

/-- The opcode byte is one of the three whose command takes a data byte (R60: GBYTE, GEXC, VBYTE). -/
def opcodeTakesOperand (op : Byte) : Bool :=
  op == 0x11 || op == 0x12 || op == 0x21

/-- R64 (a): the opcode of this command word is assigned. -/
def wordOpcodeAssigned (w : Word) : Bool :=
  !opcodeUnassigned (w.extractLsb' 8 8)

/-- R64 (b): the data byte is 0x00 unless the opcode takes one. -/
def wordOperandAllowed (w : Word) : Bool :=
  opcodeTakesOperand (w.extractLsb' 8 8) || w.extractLsb' 0 8 == 0x00

/-- A command word is legal when neither way of R64 makes it illegal. -/
def wordWellFormed (w : Word) : Bool :=
  wordOpcodeAssigned w && wordOperandAllowed w

/-- The caller's duty `len(body) <= 252` (R181, R239). -/
def FrameSpec.bodyFits (f : FrameSpec) : Bool :=
  decide (f.body.length ≤ Config.maxPayload)

/-- The caller's duty `len(body) = 1` when `exception` (R181, R69). -/
def FrameSpec.exceptionShape (f : FrameSpec) : Bool :=
  !f.exception || f.body.length == 1

/-- The caller's duty `fc <= 0x7F` (R181, R70). -/
def FrameSpec.functionCode7 (f : FrameSpec) : Bool :=
  f.fc ≤ Config.functionMask

/-- The frame conforms to the document's wire formats (R181). -/
def FrameSpec.wellFormed (f : FrameSpec) : Bool :=
  f.bodyFits && f.exceptionShape && f.functionCode7

end Sys2Proof
end

