-- ==== Sys2Proof/Decode.lean ====
section
/-! DEFINITION. Decoding a command word by the opcode map (R62 to R64), rejecting by name, and the encoder (R60, R72). -/

namespace Sys2Proof

/-- The opcode field `cmd[15:8]` (R60). -/
def opcodeField (w : Word) : Byte := w.extractLsb' 8 8

/-- The operand field `cmd[7:0]` (R60). -/
def operandField (w : Word) : Byte := w.extractLsb' 0 8

/-- A row of the opcode map: a word selects the row when `cmd & mask = match` (R62). -/
structure OpRow where
  mnemonic : String
  matchWord : Word
  mask : Word
  /-- the command, given the data byte -/
  build : Byte → Instr

/-- The opcode map of R62, in its order. -/
def opcodeTable : List OpRow :=
  [ ⟨"NOP",    0x0000, 0xFFFF, fun _ => .nop⟩,
    ⟨"CLR",    0x0100, 0xFFFF, fun _ => .clr⟩,
    ⟨"GBEG",   0x1000, 0xFFFF, fun _ => .gbeg⟩,
    ⟨"GBYTE",  0x1100, 0xFF00, fun d => .gbyte d⟩,
    ⟨"GEXC",   0x1200, 0xFF00, fun d => .gexc d⟩,
    ⟨"GCRL",   0x1300, 0xFFFF, fun _ => .gcrl⟩,
    ⟨"GCRH",   0x1400, 0xFFFF, fun _ => .gcrh⟩,
    ⟨"VBEG",   0x2000, 0xFFFF, fun _ => .vbeg⟩,
    ⟨"VBYTE",  0x2100, 0xFF00, fun d => .vbyte d⟩,
    ⟨"VEND",   0x2200, 0xFFFF, fun _ => .vend⟩,
    ⟨"RDST",   0x3000, 0xFFFF, fun _ => .rdst⟩,
    ⟨"RDADDR", 0x3100, 0xFFFF, fun _ => .rdaddr⟩,
    ⟨"RDFC",   0x3200, 0xFFFF, fun _ => .rdfc⟩,
    ⟨"RDEXC",  0x3300, 0xFFFF, fun _ => .rdexc⟩,
    ⟨"RDTYP",  0x3400, 0xFFFF, fun _ => .rdtyp⟩,
    ⟨"RDLEN",  0x3500, 0xFFFF, fun _ => .rdlen⟩,
    ⟨"RDCRL",  0x3600, 0xFFFF, fun _ => .rdcrl⟩,
    ⟨"RDCRH",  0x3700, 0xFFFF, fun _ => .rdcrh⟩ ]

/-- The word selects this row of the map (R62). -/
def OpRow.selects (r : OpRow) (w : Word) : Bool := w &&& r.mask == r.matchWord

/-- The two ways a command word is illegal (R64 (a), (b)). -/
inductive IllegalWord where
  /-- the opcode is none of the eighteen -/
  | unassignedOpcode
  /-- the opcode takes no operand and the data byte is not 0x00 -/
  | nonzeroOperand
  deriving DecidableEq, Repr

/-- Total decoding of a command word (R63): the command whose row it selects, or the reason of R64. It does not look at MODE (R74). -/
def decode (w : Word) : Except IllegalWord Instr :=
  match opcodeTable.find? (fun r => r.selects w) with
  | some r => .ok (r.build (operandField w))
  | none => if wordOpcodeAssigned w then .error .nonzeroOperand else .error .unassignedOpcode

/-- The word of a command, `(op << 8) | d` with `op` from R62 and `d` the operand or 0 (R60, R72). -/
def encode : Instr → Word
  | .nop => 0x00#8 ++ 0x00#8
  | .clr => 0x01#8 ++ 0x00#8
  | .gbeg => 0x10#8 ++ 0x00#8
  | .gbyte d => 0x11#8 ++ d
  | .gexc d => 0x12#8 ++ d
  | .gcrl => 0x13#8 ++ 0x00#8
  | .gcrh => 0x14#8 ++ 0x00#8
  | .vbeg => 0x20#8 ++ 0x00#8
  | .vbyte d => 0x21#8 ++ d
  | .vend => 0x22#8 ++ 0x00#8
  | .rdst => 0x30#8 ++ 0x00#8
  | .rdaddr => 0x31#8 ++ 0x00#8
  | .rdfc => 0x32#8 ++ 0x00#8
  | .rdexc => 0x33#8 ++ 0x00#8
  | .rdtyp => 0x34#8 ++ 0x00#8
  | .rdlen => 0x35#8 ++ 0x00#8
  | .rdcrl => 0x36#8 ++ 0x00#8
  | .rdcrh => 0x37#8 ++ 0x00#8

/-- The command port's word for the instruction whose bits are the low `nbits` bits of `w`, every higher bit 0.
DEDUCED (log 9): a command is one 16-bit word on a parallel port (R40, R60), so its bits are the table's bits and no byte order
enters. Safe. -/
def tableWord (nbits w : Nat) : Word := BitVec.ofNat 16 (w % 2 ^ nbits)

/-- The command this decoder reads from a row's word of spec/opcode_table.json. -/
def decodeTableWord (nbits w : Nat) : Option Instr :=
  match decode (tableWord nbits w) with
  | .ok i => some i
  | .error _ => none

end Sys2Proof
end

