-- ==== Sys2Proof/Machine/Port.lean ====
section
/-! DEFINITION. The command port and the reset input: what a step takes in (R40, R48, R110 step 1), and how a host presents commands. -/

namespace Sys2Proof.Machine

/-- What one step finds at the ports, with the state after taking it in. -/
inductive Fetched where
  /-- no command is presented and reset is not pulsed -/
  | idle
  /-- the reset input is pulsed -/
  | reset (s : State)
  /-- an illegal command word, and why -/
  | illegal (e : IllegalWord) (s : State)
  /-- a command -/
  | command (i : Instr) (s : State)
  deriving DecidableEq, Repr

/-- Take the next port event and decode a command word (R110 step 1). A command word is consumed once when presented (R50). -/
def fetch (s : State) : Fetched :=
  match s.inputs with
  | [] => .idle
  | .reset :: rest => .reset { s with inputs := rest }
  | .command w :: rest =>
    match decode w with
    | .ok i => .command i { s with inputs := rest }
    | .error e => .illegal e { s with inputs := rest }

/-- "An idle block simply receives no commands and keeps its state indefinitely" (R215). DEDUCED (log 3). Safe. -/
def idleStep (s : State) : State := s

/-- An illegal word, for either reason, executes as `raise Err(ILL)` (R64, R202). -/
def takeIllegal (_e : IllegalWord) (s : State) : State := raiseErr .ill s

/-- The host presents this command word next, before whatever it was going to present. -/
def presentWord (w : Word) (s : State) : State := { s with inputs := .command w :: s.inputs }

/-- The host presents exactly these port events, in order. -/
def presentEvents (es : List PortEvent) (s : State) : State := { s with inputs := es }

/-- The host presents exactly these commands, in order, each as its command word. -/
def present (cs : List Instr) (s : State) : State := presentEvents (cs.map (fun i => .command (encode i))) s

end Sys2Proof.Machine
end

