-- ==== Sys2Proof/Machine/Step.lean ====
section
/-! DEFINITION. One step of the block (R7, R110) and the placing of a word where the next step takes it. -/

namespace Sys2Proof.Machine

/-- One step: take the next port event; a reset pulse resets, an illegal word raises ILL, a command executes (R110, R230). -/
def step (s : State) : Host.Outcome State Fault Refusal :=
  match fetch s with
  | .idle => .next (idleStep s)
  | .reset s' => .next (resetBlock s')
  | .illegal e s' => .next (takeIllegal e s')
  | .command i s' => exec i s'

/-- The word of a table row, presented at the command port as the next input (log 6, log 9). -/
def State.withFetchWord (s : State) (nbits w : Nat) : State :=
  presentWord (tableWord nbits w) s

end Sys2Proof.Machine
end

