-- ==== Sys2Proof/Machine/Assembler.lean ====
section
/-! DEFINITION. The assembler line (R72) and the expansion of the pseudo-instructions (R73). -/

namespace Sys2Proof.Machine

/-- The commands a pseudo-instruction expands to (R73). -/
def expand : Pseudo → List Instr
  | .gframe bs => [.gbeg] ++ bs.map .gbyte ++ [.gcrl, .gcrh]
  | .gxframe a f e => [.gbeg, .gbyte a, .gexc f, .gbyte e, .gcrl, .gcrh]
  | .vframe bs => [.vbeg] ++ bs.map .vbyte ++ [.vend]
  | .crc16 bs => [.gbeg] ++ bs.map .gbyte ++ [.rdcrl, .rdcrh]

/-- The mnemonic of a command, in upper case (R62, R72). -/
def mnemonicChars : Instr → List Char
  | .nop => ['N', 'O', 'P']
  | .clr => ['C', 'L', 'R']
  | .gbeg => ['G', 'B', 'E', 'G']
  | .gbyte _ => ['G', 'B', 'Y', 'T', 'E']
  | .gexc _ => ['G', 'E', 'X', 'C']
  | .gcrl => ['G', 'C', 'R', 'L']
  | .gcrh => ['G', 'C', 'R', 'H']
  | .vbeg => ['V', 'B', 'E', 'G']
  | .vbyte _ => ['V', 'B', 'Y', 'T', 'E']
  | .vend => ['V', 'E', 'N', 'D']
  | .rdst => ['R', 'D', 'S', 'T']
  | .rdaddr => ['R', 'D', 'A', 'D', 'D', 'R']
  | .rdfc => ['R', 'D', 'F', 'C']
  | .rdexc => ['R', 'D', 'E', 'X', 'C']
  | .rdtyp => ['R', 'D', 'T', 'Y', 'P']
  | .rdlen => ['R', 'D', 'L', 'E', 'N']
  | .rdcrl => ['R', 'D', 'C', 'R', 'L']
  | .rdcrh => ['R', 'D', 'C', 'R', 'H']

/-- The commands that take no operand, to be found by their mnemonic. -/
def plainCommands : List Instr :=
  [.nop, .clr, .gbeg, .gcrl, .gcrh, .vbeg, .vend, .rdst, .rdaddr, .rdfc, .rdexc, .rdtyp, .rdlen, .rdcrl, .rdcrh]

/-- The commands that take one operand, to be found by their mnemonic. -/
def operandCommands : List (Byte → Instr) := [.gbyte, .gexc, .vbyte]

/-- Why a line is no command. DESIGN CHOICE (log 11): R72 does not say how a malformed line is reported. Safe. -/
inductive AsmError where
  | unknownMnemonic
  | missingOperand
  | extraOperand
  | badOperand
  deriving DecidableEq, Repr

/-- The value of a hexadecimal digit, in either case (log 11). -/
def hexDigit (c : Char) : Option Nat :=
  let n := c.toNat
  if 48 ≤ n ∧ n ≤ 57 then some (n - 48)
  else if 65 ≤ n ∧ n ≤ 70 then some (n - 55)
  else if 97 ≤ n ∧ n ≤ 102 then some (n - 87)
  else none

/-- Two hexadecimal digits, with or without the 0x sign (R72). -/
def hexByte : List Char → Option Byte
  | [a, b] =>
    match hexDigit a, hexDigit b with
    | some x, some y => some (BitVec.ofNat 8 (16 * x + y))
    | _, _ => none
  | ['0', 'x', a, b] =>
    match hexDigit a, hexDigit b with
    | some x, some y => some (BitVec.ofNat 8 (16 * x + y))
    | _, _ => none
  | _ => none

/-- The words of a line: what stands before a `;`, cut at blanks and tabs (R72; log 11). `word` is the word being read. -/
def lineWords (word : List Char) : List Char → List (List Char)
  | [] => if word.isEmpty then [] else [word]
  | c :: rest =>
    if c = ';' then (if word.isEmpty then [] else [word])
    else if c = ' ' ∨ c = '\t' then (if word.isEmpty then lineWords [] rest else word :: lineWords [] rest)
    else lineWords (word ++ [c]) rest

/-- A command from its words: the mnemonic and, for GBYTE, GEXC and VBYTE only, one operand (R72). -/
def commandOfWords (name : List Char) (operands : List (List Char)) : Except AsmError Instr :=
  match plainCommands.find? (fun i => mnemonicChars i == name), operandCommands.find? (fun f => mnemonicChars (f 0) == name) with
  | some i, _ => if operands.isEmpty then .ok i else .error .extraOperand
  | none, none => .error .unknownMnemonic
  | none, some f =>
    match operands with
    | [] => .error .missingOperand
    | [d] =>
      match hexByte d with
      | some b => .ok (f b)
      | none => .error .badOperand
    | _ :: _ :: _ => .error .extraOperand

/-- Assemble one line: `none` for a line with nothing but blanks and a comment (R72). -/
def assembleLine (line : List Char) : Except AsmError (Option Instr) :=
  match lineWords [] line with
  | [] => .ok none
  | name :: operands =>
    match commandOfWords name operands with
    | .ok i => .ok (some i)
    | .error e => .error e

/-- The digit of a value below 16, in upper case. -/
def hexChar (n : Nat) : Char := if n < 10 then Char.ofNat (48 + n) else Char.ofNat (55 + n)

/-- A byte as two hexadecimal digits. -/
def hexChars (b : Byte) : List Char := [hexChar (b.toNat / 16), hexChar (b.toNat % 16)]

/-- The operand text of a command, empty where it has none. -/
def operandChars : Instr → List Char
  | .gbyte d => ' ' :: hexChars d
  | .gexc d => ' ' :: hexChars d
  | .vbyte d => ' ' :: hexChars d
  | .nop | .clr | .gbeg | .gcrl | .gcrh | .vbeg | .vend | .rdst | .rdaddr | .rdfc | .rdexc | .rdtyp | .rdlen | .rdcrl | .rdcrh => []

/-- The line of a command (R72). -/
def assemblyLine (i : Instr) : List Char := mnemonicChars i ++ operandChars i

end Sys2Proof.Machine
end

