-- ==== Sys2Proof/Machine/Envelope.lean ====
section
/-! DEFINITION. The RTU envelope as whole-frame functions: `rtu_encode` (R181) and `rtu_decode` (R182). -/

namespace Sys2Proof.Machine

/-- The bytes of a frame before its CRC: address byte, function byte (exception bit set on request), body (R181). -/
def frameHead (f : FrameSpec) : List Byte :=
  [f.addr, if f.exception then markException f.fc else f.fc] ++ f.body

/-- `rtu_encode` (R181): the bytes before the CRC, then the CRC low byte first. Total: it does not check the caller's duties. -/
def rtuEncode (f : FrameSpec) : List Byte :=
  frameHead f ++ crcBytes (crc16 (frameHead f))

/-- The record `rtu_decode` gives (R180, R182). -/
structure Decoded where
  verdict : Verdict
  fShort : Bool
  fLong : Bool
  fCrc : Bool
  fAddr : Bool
  addr : Byte
  fcb : Byte
  fc : Byte
  b2 : Byte
  ftype : FrameType
  plen : Byte
  payload : List Byte
  crc : Word
  deriving DecidableEq, Repr

/-- `f[i]`, and 0x00 where the frame has no such byte; every use below that the spec leaves unread is guarded by the length (log 13). -/
def frameByte (f : List Byte) (i : Nat) : Byte := f.getD i 0x00

/-- `f[0 .. max(n-2, 0))`: all bytes but the last two (R182). -/
def beforeCrc (f : List Byte) : List Byte := f.take (f.length - 2)

/-- `f[n-1] : f[n-2]`: the CRC field's value, low byte first on the wire (R42, R182). -/
def crcField (f : List Byte) : Word := joinBytes (frameByte f (f.length - 1)) (frameByte f (f.length - 2))

/-- `rtu_decode` (R182), on a frame of any length and with any station address. -/
def rtuDecode (f : List Byte) (myAddr : Byte) : Decoded :=
  let n := f.length
  let fs := flagShort n
  let fl := flagLong n
  let fc := flagCrc n (crc16 (beforeCrc f)) (crcField f)
  let fa := flagAddr n (frameByte f 0) myAddr
  let v := verdict fs fl fc fa
  { verdict := v
    fShort := fs
    fLong := fl
    fCrc := fc
    fAddr := fa
    addr := frameByte f 0
    fcb := frameByte f 1
    fc := functionCode (frameByte f 1)
    b2 := frameByte f 2
    ftype := frameTypeOf v (frameByte f 1)
    plen := payloadLength n
    payload := if 4 ≤ n then (beforeCrc f).drop 2 else []
    crc := crc16 (beforeCrc f) }

end Sys2Proof.Machine
end

