-- ==== Sys2Proof/Safety.lean ====
section
/-! DEFINITION. The terms claims use: reading a response stream, the commands that change nothing, the mode table of R113, runs of
presented commands, and the invariant of the registers. -/

namespace Sys2Proof.Machine

/-- The eight read commands (R168). -/
def isRead : Instr → Bool
  | .rdst => true
  | .rdaddr => true
  | .rdfc => true
  | .rdexc => true
  | .rdtyp => true
  | .rdlen => true
  | .rdcrl => true
  | .rdcrh => true
  | .nop => false
  | .clr => false
  | .gbeg => false
  | .gbyte _ => false
  | .gexc _ => false
  | .gcrl => false
  | .gcrh => false
  | .vbeg => false
  | .vbyte _ => false
  | .vend => false

/-- NOP and the read commands: the ones with "no side effect at all" (R46). -/
def isTransparent (i : Instr) : Bool := i == .nop || isRead i

/-- The generate commands (42_generate.md). -/
def isGenerate : Instr → Bool
  | .gbeg => true
  | .gbyte _ => true
  | .gexc _ => true
  | .gcrl => true
  | .gcrh => true
  | .nop => false
  | .clr => false
  | .vbeg => false
  | .vbyte _ => false
  | .vend => false
  | .rdst => false
  | .rdaddr => false
  | .rdfc => false
  | .rdexc => false
  | .rdtyp => false
  | .rdlen => false
  | .rdcrl => false
  | .rdcrh => false

/-- The commands of a sequence that are not NOP and not a read, in order. -/
def effective (cs : List Instr) : List Instr := cs.filter (fun i => !isTransparent i)

/-- The data bytes of the responses of one kind, in order (R61). -/
def bytesOfKind (kind : Byte) (rs : List Word) : List Byte :=
  (rs.filter (fun r => hi r == kind)).map lo

/-- The WIRE bytes of a response stream, in order: what the host transmits (R61, R240). -/
def wireBytes (rs : List Word) : List Byte := bytesOfKind 0x01 rs

/-- The PAY bytes of a response stream, in order: what the host collects as payload (R61, R145). -/
def payBytes (rs : List Word) : List Byte := bytesOfKind 0x02 rs

/-- A word the response port may carry: one of the six kinds with a data byte that kind can have (R61, R66, R67). -/
def responseLegal (r : Word) : Bool :=
  (hi r == 0x00 && lo r == 0x00) || hi r == 0x01 || hi r == 0x02
    || (hi r == 0x03 && 0x01 ≤ lo r && lo r ≤ 0x05) || hi r == 0x04 || (hi r == 0x0F && (lo r == 0x01 || lo r == 0x02))

/-- MODE after a command issued in a mode: the table of R113, a refused command leaving it. -/
def modeAfter : Instr → Mode → Mode
  | .nop, m => m
  | .rdst, m => m
  | .rdaddr, m => m
  | .rdfc, m => m
  | .rdexc, m => m
  | .rdtyp, m => m
  | .rdlen, m => m
  | .rdcrl, m => m
  | .rdcrh, m => m
  | .clr, _ => .idle
  | .gbeg, _ => .gen
  | .vbeg, _ => .chk
  | .gbyte _, m => m
  | .gexc _, m => m
  | .vbyte _, m => m
  | .gcrl, .gen => .gent
  | .gcrl, .idle => .idle
  | .gcrl, .gent => .gent
  | .gcrl, .chk => .chk
  | .gcrh, .gent => .idle
  | .gcrh, .idle => .idle
  | .gcrh, .gen => .gen
  | .gcrh, .chk => .chk
  | .vend, .chk => .idle
  | .vend, .idle => .idle
  | .vend, .gen => .gen
  | .vend, .gent => .gent

/-- The state after the host has presented these commands, in order, and the block has taken them all (R48). -/
def runCommands (cs : List Instr) (s : State) : Host.Outcome State Fault Refusal :=
  Host.Core.run Sys2Proof.core cs.length (present cs s)

/-- The left fold of the commands' meanings (R48), stopping where one does not answer a next state. -/
def foldExec : List Instr → State → Host.Outcome State Fault Refusal
  | [], s => .next s
  | i :: cs, s =>
    match exec i s with
    | .next t => foldExec cs t
    | .fault r => .fault r
    | .refused r => .refused r

/-- The run never stops: the form this block gives "never to a crash" (R216). -/
def NeverStops (s : State) : Prop := ∀ n, ∃ t, Host.Core.run Sys2Proof.core n s = .next t

/-- What every state reached from reset satisfies, and every step keeps. -/
structure Inv (s : State) : Prop where
  /-- CNT never passes 257 (R13) -/
  cnt_le : s.cnt.toNat ≤ 257
  /-- FTYPE is never RESPONSE (R18) -/
  ftype_ne_response : s.ftype ≠ .response
  /-- PLEN is at most 252 (R19) -/
  plen_le : s.plen.toNat ≤ 252
  /-- PLEN is 0 or the length counted, less the four bytes of the envelope (R19) -/
  plen_eq : s.plen = 0 ∨ s.plen.toNat + 4 = s.cnt.toNat
  /-- F_SHORT says that fewer than four bytes were counted (R20) -/
  short_cnt : s.fShort = true → s.cnt.toNat < 4
  /-- F_LONG says that more than 256 bytes were counted (R20) -/
  long_cnt : s.fLong = true → s.cnt.toNat = 257
  /-- during a verify frame no result register is set (R29) -/
  checking : s.mode = .chk →
    s.ftype = .none ∧ s.plen = 0 ∧ s.fShort = false ∧ s.fLong = false ∧ s.fCrc = false ∧ s.fAddr = false
  /-- a frame type is given only to a frame that passed every check (R18, R164) -/
  typed : s.ftype ≠ .none →
    s.fShort = false ∧ s.fLong = false ∧ s.fCrc = false ∧ s.fAddr = false ∧ 4 ≤ s.cnt.toNat ∧ s.cnt.toNat ≤ 256 ∧
      s.addr = s.myAddr ∧ s.addr ≠ 0 ∧ s.plen.toNat + 4 = s.cnt.toNat ∧ (s.ftype = .exception ↔ s.fcb.getLsbD 7 = true)
  /-- before the first byte (R12, R15) -/
  cnt0 : s.cnt.toNat = 0 → s.h0 = 0 ∧ s.addr = 0
  /-- before the second byte (R12, R16) -/
  cnt_le_one : s.cnt.toNat ≤ 1 → s.h1 = 0 ∧ s.fcb = 0
  /-- before the third byte nothing is captured in B2 (R17) -/
  cnt_le_two : s.cnt.toNat ≤ 2 → s.b2 = 0
  /-- the captures are the bytes still in the delay line (R12, R15, R16, R17) -/
  cnt1 : s.cnt.toNat = 1 → s.addr = s.h0
  cnt2 : s.cnt.toNat = 2 → s.addr = s.h1 ∧ s.fcb = s.h0
  cnt3 : s.cnt.toNat = 3 → s.fcb = s.h1 ∧ s.b2 = s.h0
  cnt4 : s.cnt.toNat = 4 → s.b2 = s.h1
  /-- the first two bytes of a verify frame leave the CRC register at its start value (R141) -/
  crc_start : s.mode = .chk → s.cnt.toNat ≤ 2 → s.crc = 0xFFFF
  /-- every word that left the response port is one the port can carry (R61) -/
  responses_legal : ∀ r ∈ s.responses, responseLegal r = true

end Sys2Proof.Machine
end

