-- ==== Sys2Proof/Certificates/Slice0/Obligations.lean ====
section
/-! DEFINITION. The statements for the provers. Response words are written out as R61 lays them out: kind byte, then data byte. -/

open Sys2Proof Sys2Proof.Machine

/-! ## Encoding -/

/-- R60, R62: decoding the word of any command gives that command, with its data byte. -/
def Obligations.DecodeEncodeEveryCommand : Prop :=
  ∀ i : Instr, i.wellFormed = true → decode (encode i) = .ok i

/-- The other direction, over all 65536 words: a word that decodes to a command is that command's word, so no two words mean the
same command and no bit of a word is dropped. The spec derives it from R62 in 30_encoding.md section 3. -/
def Obligations.EncodeDecodeEveryWord : Prop :=
  ∀ (w : Word) (i : Instr), decode w = .ok i → encode i = w

/-- The totality and non-overlap the spec derives in 30_encoding.md section 3 ("Decoding is total"): a word selects at most one
row of the opcode map, and decodes exactly when it selects one. -/
def Obligations.EveryWordSelectsAtMostOneRow : Prop :=
  ∀ w : Word,
    (opcodeTable.filter (fun r => r.selects w)).length ≤ 1 ∧
    ((∃ i, decode w = .ok i) ↔ (opcodeTable.filter (fun r => r.selects w)).length = 1)

/-- R62: the opcode map whole. The command each row's match and mask select, the operand byte being the word's low byte; and the
MODE each command needs in order to be executed and not refused. -/
def Obligations.OpcodeMapSelectsTheCommand : Prop :=
  (∀ w : Word,
    (w &&& 0xFFFF = 0x0000 → decode w = .ok .nop) ∧ (w &&& 0xFFFF = 0x0100 → decode w = .ok .clr) ∧
    (w &&& 0xFFFF = 0x1000 → decode w = .ok .gbeg) ∧ (w &&& 0xFF00 = 0x1100 → decode w = .ok (.gbyte (w.extractLsb' 0 8))) ∧
    (w &&& 0xFF00 = 0x1200 → decode w = .ok (.gexc (w.extractLsb' 0 8))) ∧ (w &&& 0xFFFF = 0x1300 → decode w = .ok .gcrl) ∧
    (w &&& 0xFFFF = 0x1400 → decode w = .ok .gcrh) ∧ (w &&& 0xFFFF = 0x2000 → decode w = .ok .vbeg) ∧
    (w &&& 0xFF00 = 0x2100 → decode w = .ok (.vbyte (w.extractLsb' 0 8))) ∧ (w &&& 0xFFFF = 0x2200 → decode w = .ok .vend) ∧
    (w &&& 0xFFFF = 0x3000 → decode w = .ok .rdst) ∧ (w &&& 0xFFFF = 0x3100 → decode w = .ok .rdaddr) ∧
    (w &&& 0xFFFF = 0x3200 → decode w = .ok .rdfc) ∧ (w &&& 0xFFFF = 0x3300 → decode w = .ok .rdexc) ∧
    (w &&& 0xFFFF = 0x3400 → decode w = .ok .rdtyp) ∧ (w &&& 0xFFFF = 0x3500 → decode w = .ok .rdlen) ∧
    (w &&& 0xFFFF = 0x3600 → decode w = .ok .rdcrl) ∧ (w &&& 0xFFFF = 0x3700 → decode w = .ok .rdcrh)) ∧
  (∀ (i : Instr) (s : State), ∃ (t : State) (r : Word), exec i s = .next t ∧ t.responses = s.responses ++ [r] ∧
    (hi r ≠ 0x0F ↔
      match i with
      | .gbyte _ | .gexc _ | .gcrl => s.mode = .gen
      | .gcrh => s.mode = .gent
      | .vbyte _ | .vend => s.mode = .chk
      | .nop | .clr | .gbeg | .vbeg | .rdst | .rdaddr | .rdfc | .rdexc | .rdtyp | .rdlen | .rdcrl | .rdcrh => True))

/-- Words written out from the opcode map of R62, one of each family and one with a data byte, and what they stand for. -/
def Obligations.DecodedWordsFromTheMap : Prop :=
  decode 0x0000 = .ok .nop ∧ decode 0x0100 = .ok .clr ∧ decode 0x118F = .ok (.gbyte 0x8F) ∧ decode 0x120F = .ok (.gexc 0x0F) ∧
  decode 0x1400 = .ok .gcrh ∧ decode 0x21CC = .ok (.vbyte 0xCC) ∧ decode 0x2200 = .ok .vend ∧ decode 0x3700 = .ok .rdcrh ∧
  decode 0x2201 = .error .nonzeroOperand ∧ decode 0x1500 = .error .unassignedOpcode

/-- R72: the assembler line of a command, its mnemonic and its data byte as two hexadecimal digits, assembles to that command;
so does the line with any comment after it, and the line with 0x before the digits. The placing of the blank is the model's choice
(log 11). -/
def Obligations.AssemblerLineGivesItsCommand : Prop :=
  (∀ (i : Instr) (comment : List Char),
    assembleLine (assemblyLine i) = .ok (some i) ∧ assembleLine (assemblyLine i ++ ';' :: comment) = .ok (some i)) ∧
  (∀ d : Byte,
    assembleLine (['G', 'B', 'Y', 'T', 'E', ' ', '0', 'x'] ++ hexChars d) = .ok (some (.gbyte d)) ∧
    assembleLine (['G', 'E', 'X', 'C', ' ', '0', 'x'] ++ hexChars d) = .ok (some (.gexc d)) ∧
    assembleLine (['V', 'B', 'Y', 'T', 'E', ' ', '0', 'x'] ++ hexChars d) = .ok (some (.vbyte d)))

/-- R73: what each pseudo-instruction expands to. -/
def Obligations.PseudoInstructionsExpand : Prop :=
  (∀ bs : List Byte, expand (.gframe bs) = .gbeg :: (bs.map (fun b => Instr.gbyte b) ++ [.gcrl, .gcrh])) ∧
  (∀ a f e : Byte, expand (.gxframe a f e) = [.gbeg, .gbyte a, .gexc f, .gbyte e, .gcrl, .gcrh]) ∧
  (∀ bs : List Byte, expand (.vframe bs) = .vbeg :: (bs.map (fun b => Instr.vbyte b) ++ [.vend])) ∧
  (∀ bs : List Byte, expand (.crc16 bs) = .gbeg :: (bs.map (fun b => Instr.gbyte b) ++ [.rdcrl, .rdcrh]))

/-! ## The step -/

/-- R110 step 1 and 3: when the next input is a command word that decodes to `i`, the step is exactly `exec` of `i` on the state
with that input consumed; the same for the word of a table row placed by `withFetchWord`. -/
def Obligations.StepRunsTheDecodedCommand : Prop :=
  (∀ (s : State) (w : Word) (rest : List PortEvent) (i : Instr),
    s.inputs = .command w :: rest → decode w = .ok i → step s = exec i { s with inputs := rest }) ∧
  (∀ (s : State) (w : Word) (i : Instr), decode w = .ok i → step (s.withFetchWord 16 w.toNat) = exec i s)

/-- The MODEL's reading (log 3) of 60_exceptions.md section 7, "an idle block simply receives no commands and keeps its state
indefinitely": with nothing presented, a step changes nothing. -/
def Obligations.IdleBlockKeepsItsState : Prop :=
  ∀ (s : State) (n : Nat), s.inputs = [] → Host.Core.run Sys2Proof.core n s = .next s

/-- R64, R202: an illegal word, in exactly the two ways the rule lists, executes as raise Err(ILL) in every state, and no other word
is illegal. The flag is bit 4 of what RDST then answers. -/
def Obligations.IllegalWordRaisesIll : Prop :=
  ∀ (s : State) (w : Word) (rest : List PortEvent), s.inputs = .command w :: rest →
    (((0x02 ≤ w.toNat / 256 ∧ w.toNat / 256 ≤ 0x0F) ∨ (0x15 ≤ w.toNat / 256 ∧ w.toNat / 256 ≤ 0x1F) ∨
        (0x23 ≤ w.toNat / 256 ∧ w.toNat / 256 ≤ 0x2F) ∨ (0x38 ≤ w.toNat / 256 ∧ w.toNat / 256 ≤ 0xFF) ∨
        (w.toNat / 256 ∈ [0x00, 0x01, 0x10, 0x13, 0x14, 0x20, 0x22, 0x30, 0x31, 0x32, 0x33, 0x34, 0x35, 0x36, 0x37] ∧
          w.toNat % 256 ≠ 0)) →
      step s = .next { s with inputs := rest, eIll := true, responses := s.responses ++ [0x0F01] } ∧
      ∃ (u : State) (r : Word),
        exec .rdst { s with inputs := rest, eIll := true, responses := s.responses ++ [0x0F01] } = .next u ∧
        u.responses = s.responses ++ [0x0F01, r] ∧ r.getLsbD 4 = true) ∧
    (¬ ((0x02 ≤ w.toNat / 256 ∧ w.toNat / 256 ≤ 0x0F) ∨ (0x15 ≤ w.toNat / 256 ∧ w.toNat / 256 ≤ 0x1F) ∨
        (0x23 ≤ w.toNat / 256 ∧ w.toNat / 256 ≤ 0x2F) ∨ (0x38 ≤ w.toNat / 256 ∧ w.toNat / 256 ≤ 0xFF) ∨
        (w.toNat / 256 ∈ [0x00, 0x01, 0x10, 0x13, 0x14, 0x20, 0x22, 0x30, 0x31, 0x32, 0x33, 0x34, 0x35, 0x36, 0x37] ∧
          w.toNat % 256 ≠ 0)) →
      ∃ i, decode w = .ok i ∧ step s = exec i { s with inputs := rest })

/-- R203: a legal command that requires another MODE is refused: E_SEQ, the word 0x0F02, nothing else; and no other command raises
it. The flag is bit 5 of what RDST then answers. -/
def Obligations.CommandInTheWrongModeRaisesSeq : Prop :=
  ∀ (i : Instr) (s : State),
    ((((∃ d, i = .gbyte d ∨ i = .gexc d) ∨ i = .gcrl) ∧ s.mode ≠ .gen) ∨ (i = .gcrh ∧ s.mode ≠ .gent) ∨
        (((∃ d, i = .vbyte d) ∨ i = .vend) ∧ s.mode ≠ .chk) →
      exec i s = .next { s with eSeq := true, responses := s.responses ++ [0x0F02] } ∧
      ∃ (u : State) (r : Word),
        exec .rdst { s with eSeq := true, responses := s.responses ++ [0x0F02] } = .next u ∧
        u.responses = s.responses ++ [0x0F02, r] ∧ r.getLsbD 5 = true) ∧
    (¬ ((((∃ d, i = .gbyte d ∨ i = .gexc d) ∨ i = .gcrl) ∧ s.mode ≠ .gen) ∨ (i = .gcrh ∧ s.mode ≠ .gent) ∨
        (((∃ d, i = .vbyte d) ∨ i = .vend) ∧ s.mode ≠ .chk)) →
      ∃ (t : State) (r : Word), exec i s = .next t ∧ t.eSeq = s.eSeq ∧ t.responses = s.responses ++ [r] ∧ hi r ≠ 0x0F)

/-- R110: decode first (ILL, whatever the MODE), then the mode check (SEQ), then execution; exactly one of the three endings, told
apart by the response; a refused command changes only its sticky flag. -/
def Obligations.StepEndsInExactlyOneOfThreeWays : Prop :=
  ∀ (s : State) (w : Word) (rest : List PortEvent), s.inputs = .command w :: rest →
    ∃ (t : State) (r : Word), step s = .next t ∧ t.responses = s.responses ++ [r] ∧ t.inputs = rest ∧
      ((∀ i, decode w ≠ .ok i) →
        r = 0x0F01 ∧ t = { s with inputs := rest, eIll := true, responses := s.responses ++ [r] }) ∧
      (∀ i m, decode w = .ok i → requiredMode i = some m → s.mode ≠ m →
        r = 0x0F02 ∧ t = { s with inputs := rest, eSeq := true, responses := s.responses ++ [r] }) ∧
      (∀ i, decode w = .ok i → requiredMode i = none ∨ requiredMode i = some s.mode →
        hi r ≠ 0x0F ∧ t.eIll = s.eIll ∧ t.eSeq = s.eSeq ∧ exec i { s with inputs := rest } = .next t)

/-- R61: every step that takes a command word puts out exactly one response word, of one of the six kinds, with a data byte that
kind can have (R66, R67); which commands a kind can answer; and an ERR says that the command was refused. -/
def Obligations.OneLegalResponsePerCommandWord : Prop :=
  ∀ (s : State) (w : Word) (rest : List PortEvent), s.inputs = .command w :: rest →
    ∃ (t : State) (r : Word), step s = .next t ∧ t.responses = s.responses ++ [r] ∧
      ((hi r = 0x00 ∧ lo r = 0x00) ∨ hi r = 0x01 ∨ hi r = 0x02 ∨ (hi r = 0x03 ∧ lo r ∈ [0x01, 0x02, 0x03, 0x04, 0x05]) ∨
        hi r = 0x04 ∨ (hi r = 0x0F ∧ lo r ∈ [0x01, 0x02])) ∧
      (hi r = 0x00 → decode w ∈ [.ok .nop, .ok .clr, .ok .gbeg, .ok .vbeg] ∨ ∃ d, decode w = .ok (.vbyte d)) ∧
      (hi r = 0x01 → decode w ∈ [.ok .gcrl, .ok .gcrh] ∨ ∃ d, decode w = .ok (.gbyte d) ∨ decode w = .ok (.gexc d)) ∧
      (hi r = 0x02 → ∃ d, decode w = .ok (.vbyte d)) ∧
      (hi r = 0x03 → decode w = .ok .vend) ∧
      (hi r = 0x04 → ∃ i, decode w = .ok i ∧ isRead i = true) ∧
      (hi r = 0x0F → t = { s with inputs := rest, eIll := t.eIll, eSeq := t.eSeq, responses := s.responses ++ [r] })

/-- The totality the spec derives in 60_exceptions.md section 8: nothing wedges the block, whatever its state, MYADDR and inputs
are, and from every state one CLR gives the reset state but for the sticky flags. -/
def Obligations.NoInputStopsTheBlock : Prop :=
  ∀ s : State, NeverStops s ∧
    ∃ t, runCommands [.clr] s = .next t ∧
      t = { State.reset with eIll := s.eIll, eSeq := s.eSeq, myAddr := s.myAddr, responses := s.responses ++ [0x0000] }

/-- R113: MODE after every command in every mode, after a reset and after an illegal word; which commands are refused in which mode;
and the begin commands and CLR answer ACK in every mode, also when they abandon a frame. -/
def Obligations.ModeMachineTransitions : Prop :=
  (∀ (i : Instr) (s : State), ∃ (t : State) (r : Word),
    exec i s = .next t ∧ t.mode = modeAfter i s.mode ∧ t.responses = s.responses ++ [r] ∧
    (hi r = 0x0F ↔ ∃ m, requiredMode i = some m ∧ s.mode ≠ m) ∧ (i = .gbeg ∨ i = .vbeg ∨ i = .clr → r = 0x0000)) ∧
  (∀ (s t : State) (rest : List PortEvent), s.inputs = .reset :: rest → step s = .next t → t.mode = .idle) ∧
  (∀ (s t : State) (w : Word) (rest : List PortEvent), s.inputs = .command w :: rest → (∀ i, decode w ≠ .ok i) →
    step s = .next t → t.mode = s.mode)

/-- R48, R235: a run of presented commands is the left fold of their meanings, and the k-th response belongs to the k-th command. -/
def Obligations.RunIsTheFoldOfItsCommands : Prop :=
  ∀ (xs ys : List Instr) (i : Instr) (s : State),
    runCommands (xs ++ i :: ys) s = foldExec (xs ++ i :: ys) (present [] s) ∧
    ∃ (t u v : State) (rx ry : List Word) (r : Word),
      runCommands xs s = .next t ∧ exec i t = .next u ∧ runCommands (xs ++ i :: ys) s = .next v ∧
      t.responses = s.responses ++ rx ∧ rx.length = xs.length ∧ u.responses = t.responses ++ [r] ∧
      v.responses = s.responses ++ rx ++ r :: ry ∧ ry.length = ys.length

/-! ## Reset -/

/-- R27: the value of every piece of state after reset, and what the eight read commands then read. -/
def Obligations.ResetStateValues : Prop :=
  State.reset.crc = 0xFFFF ∧ State.reset.h0 = 0x00 ∧ State.reset.h1 = 0x00 ∧ State.reset.cnt = 0 ∧ State.reset.mode = .idle ∧
  State.reset.addr = 0x00 ∧ State.reset.fcb = 0x00 ∧ State.reset.b2 = 0x00 ∧ State.reset.ftype = .none ∧ State.reset.plen = 0 ∧
  State.reset.fShort = false ∧ State.reset.fLong = false ∧ State.reset.fCrc = false ∧ State.reset.fAddr = false ∧
  State.reset.eIll = false ∧ State.reset.eSeq = false ∧
  (∃ t, runCommands [.rdst, .rdaddr, .rdfc, .rdexc, .rdtyp, .rdlen, .rdcrl, .rdcrh] State.reset = .next t ∧
    t.responses = [0x0400, 0x0400, 0x0400, 0x0400, 0x0400, 0x0400, 0x04FF, 0x04FF])

/-- R230: a reset pulse, in any state, restores every register whatever it held and gives no response word; MYADDR is not touched;
and reset is the only event that clears a sticky flag. -/
def Obligations.ResetPulseRestoresEveryRegister : Prop :=
  (∀ (s : State) (rest : List PortEvent), s.inputs = .reset :: rest →
    step s = .next
      { crc := 0xFFFF, h0 := 0x00, h1 := 0x00, cnt := 0, mode := .idle, addr := 0x00, fcb := 0x00, b2 := 0x00, ftype := .none,
        plen := 0, fShort := false, fLong := false, fCrc := false, fAddr := false, eIll := false, eSeq := false,
        myAddr := s.myAddr, inputs := rest, responses := s.responses }) ∧
  (∀ s t : State, step s = .next t → ((s.eIll = true ∧ t.eIll = false) ∨ (s.eSeq = true ∧ t.eSeq = false)) →
    ∃ rest, s.inputs = .reset :: rest)

/-- R23: MYADDR cannot change while the block runs, and reset does not touch it. -/
def Obligations.StationAddressNeverChanges : Prop :=
  ∀ (n : Nat) (s t : State), Host.Core.run Sys2Proof.core n s = .next t → t.myAddr = s.myAddr

/-! ## The commands -/

/-- R111: NOP responds ACK and changes nothing. -/
def Obligations.NopChangesNothing : Prop :=
  ∀ s : State, exec .nop s = .next { s with responses := s.responses ++ [0x0000] }

/-- R112: CLR returns every register but the two sticky flags to its reset value, in every mode. -/
def Obligations.ClrClearsAllButStickyFlags : Prop :=
  ∀ s : State, exec .clr s = .next
    { s with
      crc := 0xFFFF, h0 := 0x00, h1 := 0x00, cnt := 0, mode := .idle, addr := 0x00, fcb := 0x00, b2 := 0x00, ftype := .none, plen := 0,
      fShort := false, fLong := false, fCrc := false, fAddr := false, responses := s.responses ++ [0x0000] }

/-- R120: GBEG sets CRC to 0xFFFF and MODE to GEN in every mode, responds ACK, and writes nothing else. -/
def Obligations.GbegStartsAFrame : Prop :=
  ∀ s : State, exec .gbeg s = .next { s with crc := 0xFFFF, mode := .gen, responses := s.responses ++ [0x0000] }

/-- R121: GBYTE d in GEN absorbs d and responds WIRE(d); in any other mode it is refused. -/
def Obligations.GbyteAbsorbsAndEchoes : Prop :=
  ∀ (d : Byte) (s : State),
    (s.mode = .gen → exec (.gbyte d) s = .next { s with crc := crcUpd s.crc d, responses := s.responses ++ [0x01#8 ++ d] }) ∧
    (s.mode ≠ .gen → exec (.gbyte d) s = .next { s with eSeq := true, responses := s.responses ++ [0x0F02] })

/-- R122: GEXC d in GEN absorbs d with bit 7 forced to 1 and responds WIRE of it; in any other mode it is refused; where d has bit 7
set already it is GBYTE d. -/
def Obligations.GexcMarksAbsorbsAndEchoes : Prop :=
  ∀ (d : Byte) (s : State),
    (s.mode = .gen → exec (.gexc d) s =
      .next { s with crc := crcUpd s.crc (d ||| 0x80), responses := s.responses ++ [0x01#8 ++ (d ||| 0x80)] }) ∧
    (s.mode ≠ .gen → exec (.gexc d) s = .next { s with eSeq := true, responses := s.responses ++ [0x0F02] }) ∧
    (d.getLsbD 7 = true → exec (.gexc d) s = exec (.gbyte d) s)

/-- R123: GCRL in GEN puts out the CRC's low byte and sets MODE to GENT; in any other mode it is refused. -/
def Obligations.GcrlPutsOutTheLowByte : Prop :=
  ∀ s : State,
    (s.mode = .gen → exec .gcrl s =
      .next { s with mode := .gent, responses := s.responses ++ [0x01#8 ++ s.crc.extractLsb' 0 8] }) ∧
    (s.mode ≠ .gen → exec .gcrl s = .next { s with eSeq := true, responses := s.responses ++ [0x0F02] })

/-- R124: GCRH in GENT puts out the CRC's high byte and sets MODE to IDLE; in any other mode it is refused. -/
def Obligations.GcrhPutsOutTheHighByte : Prop :=
  ∀ s : State,
    (s.mode = .gent → exec .gcrh s =
      .next { s with mode := .idle, responses := s.responses ++ [0x01#8 ++ s.crc.extractLsb' 8 8] }) ∧
    (s.mode ≠ .gent → exec .gcrh s = .next { s with eSeq := true, responses := s.responses ++ [0x0F02] })

/-- R140: VBEG clears what CLR clears and sets MODE to CHK, in every mode; the sticky flags are untouched. What a frame before it
left in the block makes no difference after it, the sticky flags apart. -/
def Obligations.VbegClearsAndStartsChecking : Prop :=
  (∀ s u : State, s.myAddr = u.myAddr → s.inputs = u.inputs → ∃ t, exec .vbeg s = .next t ∧
    exec .vbeg u = .next { t with eIll := u.eIll, eSeq := u.eSeq, responses := u.responses ++ [0x0000] }) ∧
  ∀ s : State, exec .vbeg s = .next
    { s with
      crc := 0xFFFF, h0 := 0x00, h1 := 0x00, cnt := 0, mode := .chk, addr := 0x00, fcb := 0x00, b2 := 0x00, ftype := .none, plen := 0,
      fShort := false, fLong := false, fCrc := false, fAddr := false, responses := s.responses ++ [0x0000] }

/-- R141: VBYTE d in CHK, with k the old CNT: absorbs the old H1 if k >= 2, captures d as byte 0, 1 or 2, shifts the delay line,
counts up to 257, and hands out the old H1 if k >= 4; in any other mode it is refused. -/
def Obligations.VbyteTakesOneByte : Prop :=
  ∀ (d : Byte) (s : State),
    (s.mode = .chk → exec (.vbyte d) s = .next
      { s with
        crc := if s.cnt.toNat ≥ 2 then crcUpd s.crc s.h1 else s.crc
        addr := if s.cnt = 0 then d else s.addr
        fcb := if s.cnt = 1 then d else s.fcb
        b2 := if s.cnt = 2 then d else s.b2
        h1 := s.h0
        h0 := d
        cnt := BitVec.ofNat 9 (min (s.cnt.toNat + 1) 257)
        responses := s.responses ++ [if s.cnt.toNat ≥ 4 then 0x02#8 ++ s.h1 else 0x0000] }) ∧
    (s.mode ≠ .chk → exec (.vbyte d) s = .next { s with eSeq := true, responses := s.responses ++ [0x0F02] })

/-- R142, R143: VEND in CHK writes the four flags by their formulas, FTYPE, PLEN, MODE = IDLE and responds the first flag set in the
order SHORT, LONG, BADCRC, NOTME, else OK; in any other mode it is refused. -/
def Obligations.VendJudgesTheFrame : Prop :=
  ∀ s : State,
    (s.mode = .chk →
      ∀ (fs fl fc fa : Bool),
        (fs = true ↔ s.cnt.toNat < 4) →
        (fl = true ↔ s.cnt.toNat > 256) →
        (fc = true ↔ s.cnt.toNat < 2 ∨ s.crc ≠ ((s.h0.setWidth 16 <<< 8) ||| s.h1.setWidth 16)) →
        (fa = true ↔ s.cnt.toNat < 1 ∨ s.addr ≠ s.myAddr ∨ s.addr = 0x00) →
        exec .vend s = .next
          { s with
            fShort := fs, fLong := fl, fCrc := fc, fAddr := fa
            ftype := if fs = true ∨ fl = true ∨ fc = true ∨ fa = true then .none
              else if s.fcb.getLsbD 7 = true then .exception else .request
            plen := if 4 ≤ s.cnt.toNat ∧ s.cnt.toNat ≤ 256 then BitVec.ofNat 8 (s.cnt.toNat - 4) else 0
            mode := .idle
            responses := s.responses ++
              [if fs then 0x0302 else if fl then 0x0303 else if fc then 0x0304 else if fa then 0x0305 else 0x0301] }) ∧
    (s.mode ≠ .chk → exec .vend s = .next { s with eSeq := true, responses := s.responses ++ [0x0F02] })

/-- R160 to R167: each read command, in every mode, responds VAL of its byte and changes nothing. -/
def Obligations.ReadCommandsReturnTheirRegister : Prop :=
  ∀ s : State,
    exec .rdst s = .next { s with responses := s.responses ++
      [0x04#8 ++ (((modeCode s.mode).setWidth 8 <<< 6) ||| ((BitVec.ofBool s.eSeq).setWidth 8 <<< 5) |||
        ((BitVec.ofBool s.eIll).setWidth 8 <<< 4) ||| ((BitVec.ofBool s.fAddr).setWidth 8 <<< 3) |||
        ((BitVec.ofBool s.fCrc).setWidth 8 <<< 2) ||| ((BitVec.ofBool s.fLong).setWidth 8 <<< 1) |||
        (BitVec.ofBool s.fShort).setWidth 8)] } ∧
    exec .rdaddr s = .next { s with responses := s.responses ++ [0x04#8 ++ s.addr] } ∧
    exec .rdfc s = .next { s with responses := s.responses ++ [0x04#8 ++ (s.fcb &&& 0x7F)] } ∧
    exec .rdexc s = .next { s with responses := s.responses ++ [0x04#8 ++ s.b2] } ∧
    exec .rdtyp s = .next { s with responses := s.responses ++
      [match s.ftype with | .none => 0x0400 | .request => 0x0401 | .response => 0x0402 | .exception => 0x0403] } ∧
    exec .rdlen s = .next { s with responses := s.responses ++ [0x04#8 ++ s.plen] } ∧
    exec .rdcrl s = .next { s with responses := s.responses ++ [0x04#8 ++ s.crc.extractLsb' 0 8] } ∧
    exec .rdcrh s = .next { s with responses := s.responses ++ [0x04#8 ++ s.crc.extractLsb' 8 8] }

/-! ## Rules over all commands -/

/-- R21: the sticky flags. When E_ILL and E_SEQ become set, exactly; nothing but reset clears them (the equations); they have no
effect on any other behaviour; and only RDST reads them. -/
def Obligations.StickyErrorFlags : Prop :=
  (∀ (s : State) (w : Word) (rest : List PortEvent), s.inputs = .command w :: rest →
    ∃ t, step s = .next t ∧ t.eIll = (s.eIll || !wordWellFormed w) ∧
      (t.eSeq = true ↔ s.eSeq = true ∨ ∃ i m, decode w = .ok i ∧ requiredMode i = some m ∧ s.mode ≠ m)) ∧
  (∀ (s t : State), s.inputs = [] → step s = .next t → t.eIll = s.eIll ∧ t.eSeq = s.eSeq) ∧
  (∀ (s t : State) (rest : List PortEvent), s.inputs = .reset :: rest → step s = .next t → t.eIll = false ∧ t.eSeq = false) ∧
  (∀ (s t : State) (a b : Bool) (i : Instr), exec i s = .next t →
    ∃ u, exec i { s with eIll := a, eSeq := b } = .next u ∧
      { u with eIll := t.eIll, eSeq := t.eSeq, responses := t.responses } = t ∧
      (i ≠ .rdst → u.responses = t.responses))

/-- R20: the four result flags are written together by VEND, each by its formula, its verdict being the first one set; cleared
together by VBEG, CLR and reset, written by no other command, and read by RDST alone. -/
def Obligations.ResultFlagsWrittenTogether : Prop :=
  (∀ (s t : State) (i : Instr), exec i s = .next t →
    (i = .vend ∧ s.mode = .chk →
      (t.fShort = true ↔ s.cnt.toNat < 4) ∧ (t.fLong = true ↔ s.cnt.toNat > 256) ∧
      (t.fCrc = true ↔ s.cnt.toNat < 2 ∨ s.crc ≠ s.h0 ++ s.h1) ∧
      (t.fAddr = true ↔ s.cnt.toNat < 1 ∨ s.addr ≠ s.myAddr ∨ s.addr = 0x00) ∧
      t.responses = s.responses ++
        [if t.fShort then 0x0302 else if t.fLong then 0x0303 else if t.fCrc then 0x0304 else if t.fAddr then 0x0305 else 0x0301]) ∧
    (i = .vbeg ∨ i = .clr → t.fShort = false ∧ t.fLong = false ∧ t.fCrc = false ∧ t.fAddr = false) ∧
    (i ≠ .vbeg → i ≠ .clr → ¬ (i = .vend ∧ s.mode = .chk) →
      t.fShort = s.fShort ∧ t.fLong = s.fLong ∧ t.fCrc = s.fCrc ∧ t.fAddr = s.fAddr)) ∧
  (∀ (s t : State) (rest : List PortEvent), s.inputs = .reset :: rest → step s = .next t →
    t.fShort = false ∧ t.fLong = false ∧ t.fCrc = false ∧ t.fAddr = false) ∧
  (∀ (s t : State) (a b c d : Bool) (i : Instr), exec i s = .next t → i ≠ .rdst →
    ∃ u, exec i { s with fShort := a, fLong := b, fCrc := c, fAddr := d } = .next u ∧
      { u with fShort := t.fShort, fLong := t.fLong, fCrc := t.fCrc, fAddr := t.fAddr } = t)

/-- R18: the codes of FTYPE; FTYPE is NONE after VBEG, CLR and reset, EXCEPTION or REQUEST by FCB[7] after a VEND whose verdict is
OK, NONE after a VEND with any other verdict, and unchanged by everything else; so no command writes RESPONSE. -/
def Obligations.FrameTypeWriters : Prop :=
  frameTypeCode .none = 0 ∧ frameTypeCode .request = 1 ∧ frameTypeCode .response = 2 ∧ frameTypeCode .exception = 3 ∧
  (∀ (s t : State) (i : Instr), exec i s = .next t →
    (i = .vbeg ∨ i = .clr → t.ftype = .none) ∧
    (i = .vend ∧ s.mode = .chk →
      (t.responses = s.responses ++ [0x0301] ∧ s.fcb.getLsbD 7 = true → t.ftype = .exception) ∧
      (t.responses = s.responses ++ [0x0301] ∧ s.fcb.getLsbD 7 = false → t.ftype = .request) ∧
      (t.responses ≠ s.responses ++ [0x0301] → t.ftype = .none)) ∧
    (i ≠ .vbeg → i ≠ .clr → ¬ (i = .vend ∧ s.mode = .chk) → t.ftype = s.ftype) ∧
    (s.ftype ≠ .response → t.ftype ≠ .response)) ∧
  (∀ (s t : State) (rest : List PortEvent), s.inputs = .reset :: rest → step s = .next t → t.ftype = .none)

/-- R205: the five verdicts of VEND, told apart by conditions on the frame, with the response word and what is recorded; MODE goes
to IDLE and no sticky flag is set. -/
def Obligations.VerdictsAndWhatTheyRecord : Prop :=
  ∀ s : State, s.mode = .chk → ∃ t, exec .vend s = .next t ∧ t.mode = .idle ∧ t.eIll = s.eIll ∧ t.eSeq = s.eSeq ∧ t.crc = s.crc ∧
    t.addr = s.addr ∧ (t.fCrc = true ↔ s.cnt.toNat < 2 ∨ s.crc ≠ s.h0 ++ s.h1) ∧
    (t.fAddr = true ↔ s.cnt.toNat < 1 ∨ s.addr ≠ s.myAddr ∨ s.addr = 0x00) ∧
    (4 ≤ s.cnt.toNat ∧ s.cnt.toNat ≤ 256 ∧ s.crc = s.h0 ++ s.h1 ∧ s.addr = s.myAddr ∧ s.addr ≠ 0x00 →
      t.responses = s.responses ++ [0x0301] ∧ t.fShort = false ∧ t.fLong = false ∧ t.fCrc = false ∧ t.fAddr = false ∧
      (t.ftype = .request ∨ t.ftype = .exception) ∧ t.plen.toNat = s.cnt.toNat - 4) ∧
    (s.cnt.toNat < 4 → t.responses = s.responses ++ [0x0302] ∧ t.fShort = true ∧ t.ftype = .none ∧ t.plen = 0) ∧
    (256 < s.cnt.toNat → t.responses = s.responses ++ [0x0303] ∧ t.fLong = true ∧ t.ftype = .none ∧ t.plen = 0) ∧
    (4 ≤ s.cnt.toNat ∧ s.cnt.toNat ≤ 256 ∧ s.crc ≠ s.h0 ++ s.h1 →
      t.responses = s.responses ++ [0x0304] ∧ t.fCrc = true ∧ t.ftype = .none ∧ t.plen.toNat = s.cnt.toNat - 4) ∧
    (4 ≤ s.cnt.toNat ∧ s.cnt.toNat ≤ 256 ∧ s.crc = s.h0 ++ s.h1 ∧ (s.addr = 0x00 ∨ s.addr ≠ s.myAddr) →
      t.responses = s.responses ++ [0x0305] ∧ t.fAddr = true ∧ t.fCrc = false ∧ t.ftype = .none ∧
      t.plen.toNat = s.cnt.toNat - 4)

/-- The clause of 00_scope.md section 4 on MYADDR = 0x00 ("no frame is ever accepted"): no step whatever answers VERD OK. -/
def Obligations.AddressZeroAcceptsNothing : Prop :=
  ∀ (s : State), s.myAddr = 0x00 → ∀ (n : Nat) (t : State), Host.Core.run Sys2Proof.core n s = .next t →
    ∃ rs, t.responses = s.responses ++ rs ∧ 0x0301 ∉ rs

/-- The "written by" column of 10_state.md section 1, which the spec derives from the command rules: a register changes only in a
command listed for it (for VEND's registers, only in mode CHK). -/
def Obligations.OnlyListedCommandsWriteARegister : Prop :=
  ∀ (s t : State) (i : Instr), exec i s = .next t →
    (t.crc ≠ s.crc → i = .clr ∨ i = .gbeg ∨ i = .vbeg ∨ ∃ d, i = .gbyte d ∨ i = .gexc d ∨ i = .vbyte d) ∧
    (t.h0 ≠ s.h0 ∨ t.h1 ≠ s.h1 ∨ t.cnt ≠ s.cnt ∨ t.addr ≠ s.addr ∨ t.fcb ≠ s.fcb ∨ t.b2 ≠ s.b2 →
      i = .clr ∨ i = .vbeg ∨ (s.mode = .chk ∧ ∃ d, i = .vbyte d)) ∧
    (t.mode ≠ s.mode → i = .clr ∨ i = .gbeg ∨ i = .gcrl ∨ i = .gcrh ∨ i = .vbeg ∨ i = .vend) ∧
    (t.ftype ≠ s.ftype ∨ t.plen ≠ s.plen ∨ t.fShort ≠ s.fShort ∨ t.fLong ≠ s.fLong ∨ t.fCrc ≠ s.fCrc ∨ t.fAddr ≠ s.fAddr →
      i = .clr ∨ i = .vbeg ∨ (s.mode = .chk ∧ i = .vend)) ∧
    (t.eSeq ≠ s.eSeq → ∃ m, requiredMode i = some m ∧ s.mode ≠ m) ∧
    t.eIll = s.eIll ∧ t.myAddr = s.myAddr ∧ t.inputs = s.inputs

/-- The confinement the spec derives in 42_generate.md section 6: the generate commands read and write only CRC and MODE (and E_SEQ
when refused); two states that agree in CRC and MODE give the same response and the same new CRC and MODE. -/
def Obligations.GenerateCommandsUseOnlyCrcAndMode : Prop :=
  ∀ (i : Instr) (s u : State), isGenerate i = true → u.crc = s.crc → u.mode = s.mode →
    ∃ (t v : State) (r : Word), exec i s = .next t ∧ exec i u = .next v ∧
      t = { s with crc := t.crc, mode := t.mode, eSeq := t.eSeq, responses := s.responses ++ [r] } ∧
      v = { u with crc := t.crc, mode := t.mode, eSeq := v.eSeq, responses := u.responses ++ [r] }

/-- R168: each read command responds VAL in every mode and changes no state whatever; its only error is ILL for a nonzero operand
byte; inserting it anywhere in a command sequence changes no other response and no later state; and the same read issued twice in a
row gives the same word twice. -/
def Obligations.ReadsChangeNothing : Prop :=
  ∀ i : Instr, isRead i = true →
    (∀ s : State, ∃ b : Byte, exec i s = .next { s with responses := s.responses ++ [0x04#8 ++ b] }) ∧
    (∀ (s : State) (d : Byte) (rest : List PortEvent), d ≠ 0x00 → s.inputs = .command (encode i ||| d.setWidth 16) :: rest →
      step s = .next { s with inputs := rest, eIll := true, responses := s.responses ++ [0x0F01] }) ∧
    (∀ (xs ys : List Instr) (s : State), ∃ (t : State) (rx ry : List Word) (r : Word),
      runCommands (xs ++ ys) s = .next t ∧ t.responses = s.responses ++ rx ++ ry ∧ rx.length = xs.length ∧ ry.length = ys.length ∧
      runCommands (xs ++ i :: ys) s = .next { t with responses := s.responses ++ rx ++ r :: ry }) ∧
    (∀ s : State, ∃ r : Word, runCommands [i, i] s = .next { s with inputs := [], responses := s.responses ++ [r, r] })

/-- What the spec derives in 10_state.md section 7: CLR gives the reset state but for the sticky flags, and VBEG gives what CLR
gives but for MODE = CHK. -/
def Obligations.ClrAndVbegAgainstReset : Prop :=
  ∀ s : State, ∃ t,
    exec .clr s = .next t ∧
    t = { State.reset with
      eIll := s.eIll, eSeq := s.eSeq, myAddr := s.myAddr, inputs := s.inputs, responses := s.responses ++ [0x0000] } ∧
    exec .vbeg s = .next { t with mode := .chk }

/-- The invariant of the registers holds after reset. The conditions are the model's reading of rules R12, R13, R15 to R20, R29,
R61. -/
def Obligations.RegisterInvariantAtReset : Prop := Inv State.reset

/-- Every step keeps the invariant of the registers, from every state that has it. -/
def Obligations.StepKeepsTheRegisterInvariant : Prop :=
  ∀ s t : State, Inv s → step s = .next t → Inv t

/-! ## The CRC -/

/-- R90, R91, R92: crc_shift on numbers, crc_upd as the byte XORed in and eight shifts, crc16 as the recursion on the last byte. -/
def Obligations.CrcFunctionsAsTheRulesGiveThem : Prop :=
  (∀ r : Word, (crcShift r).toNat = if r.toNat % 2 = 1 then (r.toNat / 2) ^^^ 0xA001 else r.toNat / 2) ∧
  (∀ (r : Word) (b : Byte), crcUpd r b = crcShift^[8] (r ^^^ b.setWidth 16)) ∧
  crc16 [] = 0xFFFF ∧ (∀ (s : List Byte) (b : Byte), crc16 (s ++ [b]) = crcUpd (crc16 s) b)

/-- The bit-serial form the spec derives in 40_crc_arithmetic.md section 4: one data bit per step, bit 0 first. -/
def Obligations.CrcBitSerialForm : Prop :=
  ∀ (r : Word) (b : Byte),
    crcUpd r b = (List.range 8).foldl
      (fun (r : Word) i => if Bool.xor (r.getLsbD 0) (b.getLsbD i) then (r >>> 1) ^^^ 0xA001 else r >>> 1) r

/-- Linearity over XOR, derived in 40_crc_arithmetic.md section 4. -/
def Obligations.CrcLinearOverXor : Prop :=
  (∀ x y : Word, crcShift (x ^^^ y) = crcShift x ^^^ crcShift y) ∧
  (∀ (r1 r2 : Word) (b1 b2 : Byte), crcUpd (r1 ^^^ r2) (b1 ^^^ b2) = crcUpd r1 b1 ^^^ crcUpd r2 b2) ∧
  (∀ (r : Word) (b : Byte), crcUpd r b = crcUpd (r ^^^ b.setWidth 16) 0x00)

/-- The table form, derived in 40_crc_arithmetic.md section 4, with T[i] = crc_upd(0, i). -/
def Obligations.CrcTableForm : Prop :=
  ∀ (r : Word) (b : Byte), crcUpd r b = (r >>> 8) ^^^ crcUpd 0x0000 ((r ^^^ b.setWidth 16).extractLsb' 0 8)

/-- The residue, derived in 40_crc_arithmetic.md section 4: a message followed by its own CRC bytes, low byte first, leaves
0x0000. -/
def Obligations.CrcResidueIsZero : Prop :=
  ∀ s : List Byte, crc16 (s ++ [lo (crc16 s), hi (crc16 s)]) = 0x0000

/-- Bijectivity, derived in 40_crc_arithmetic.md section 4, and its consequence: changing exactly one byte of a sequence always
changes its CRC. -/
def Obligations.CrcDetectsOneChangedByte : Prop :=
  Function.Bijective crcShift ∧ (∀ b : Byte, Function.Bijective (fun r => crcUpd r b)) ∧
  (∀ r : Word, Function.Injective (fun b => crcUpd r b)) ∧
  (∀ (p q : List Byte) (a b : Byte), a ≠ b → crc16 (p ++ a :: q) ≠ crc16 (p ++ b :: q))

/-! ## Whole frames -/

/-- The generator theorem the spec derives in 42_generate.md section 6, from any state, NOP and reads allowed anywhere: the WIRE
bytes are the data bytes (GEXC's with bit 7 set) and then their CRC, low byte first; no response is an error; MODE ends IDLE. -/
def Obligations.GenerateSequencePutsOutTheFrame : Prop :=
  ∀ (s : State) (data : List (Bool × Byte)) (cs : List Instr),
    effective cs = [.gbeg] ++ data.map (fun p => if p.1 then .gexc p.2 else .gbyte p.2) ++ [.gcrl, .gcrh] →
    ∃ (t : State) (rs : List Word) (c : Word),
      c = crc16 (data.map (fun p => if p.1 then p.2 ||| 0x80 else p.2)) ∧
      runCommands cs s = .next t ∧ t.responses = s.responses ++ rs ∧ rs.length = cs.length ∧
      wireBytes rs = data.map (fun p => if p.1 then p.2 ||| 0x80 else p.2) ++ [c.extractLsb' 0 8, c.extractLsb' 8 8] ∧
      (∀ r ∈ rs, r = 0x0000 ∨ hi r = 0x01 ∨ hi r = 0x04) ∧ t.mode = .idle ∧ t.crc = c

/-- The verifier invariant the spec derives in 43_verify.md section 4, for a frame of any length fed after VBEG, NOP and reads
allowed anywhere. -/
def Obligations.VerifierRegistersTrackTheFrame : Prop :=
  ∀ (s : State) (f : List Byte) (cs : List Instr), effective cs = .vbeg :: f.map .vbyte →
    ∃ t, runCommands cs s = .next t ∧ t.mode = .chk ∧ t.cnt.toNat = min f.length 257 ∧ t.crc = crc16 (f.take (f.length - 2)) ∧
      (f.length ≥ 1 → f[f.length - 1]? = some t.h0 ∧ f[0]? = some t.addr) ∧
      (f.length ≥ 2 → f[f.length - 2]? = some t.h1 ∧ f[1]? = some t.fcb) ∧
      (f.length ≥ 3 → f[2]? = some t.b2) ∧
      (f.length < 1 → t.h0 = 0 ∧ t.addr = 0) ∧ (f.length < 2 → t.h1 = 0 ∧ t.fcb = 0) ∧ (f.length < 3 → t.b2 = 0) ∧
      t.ftype = .none ∧ t.plen = 0 ∧ t.fShort = false ∧ t.fLong = false ∧ t.fCrc = false ∧ t.fAddr = false

/-- The payload stream the spec derives in 43_verify.md section 4: the PAY bytes are the frame's bytes from index 2 up to but not
including the two CRC bytes, and every other answer to a byte is ACK. -/
def Obligations.PayloadStreamIsTheFrameData : Prop :=
  ∀ (s : State) (f : List Byte),
    ∃ (t : State) (rs : List Word),
      runCommands (.vbeg :: f.map .vbyte) s = .next t ∧ t.responses = s.responses ++ rs ∧ rs.length = f.length + 1 ∧
      payBytes rs = (f.take (f.length - 2)).drop 2 ∧
      (∀ r ∈ rs.take 5, r = 0x0000) ∧ (∀ r ∈ rs.drop 5, hi r = 0x02)

/-- The encode correspondence the spec derives in 45_envelope.md section 2: the two command sequences of a normal and an exception
frame put out exactly the bytes of rtu_encode. -/
def Obligations.EncodeSequencesMatchRtuEncode : Prop :=
  ∀ (s : State) (a fc : Byte) (body : List Byte),
    (∃ (t : State) (rs : List Word),
      runCommands ([.gbeg, .gbyte a, .gbyte fc] ++ body.map .gbyte ++ [.gcrl, .gcrh]) s = .next t ∧
      t.responses = s.responses ++ rs ∧ wireBytes rs = rtuEncode ⟨a, false, fc, body⟩) ∧
    (∃ (t : State) (rs : List Word),
      runCommands ([.gbeg, .gbyte a, .gexc fc] ++ body.map .gbyte ++ [.gcrl, .gcrh]) s = .next t ∧
      t.responses = s.responses ++ rs ∧ wireBytes rs = rtuEncode ⟨a, true, fc, body⟩)

/-- The decode correspondence the spec derives in 45_envelope.md section 3, for a frame of any length, from any state and for every
MYADDR, NOP and reads allowed before VEND: the streaming block gives what rtu_decode gives of the whole frame. -/
def Obligations.VerifySequenceMatchesRtuDecode : Prop :=
  ∀ (s : State) (f : List Byte) (before : List Instr), effective before = .vbeg :: f.map .vbyte →
    ∃ (t : State) (rs : List Word) (status : Byte),
      runCommands (before ++ [.vend, .rdst, .rdaddr, .rdfc, .rdexc, .rdtyp, .rdlen, .rdcrl, .rdcrh]) s = .next t ∧
      t.responses = s.responses ++ rs ++
        [0x03#8 ++ verdictCode (rtuDecode f s.myAddr).verdict, 0x04#8 ++ status, 0x04#8 ++ (rtuDecode f s.myAddr).addr,
          0x04#8 ++ (rtuDecode f s.myAddr).fc, 0x04#8 ++ (rtuDecode f s.myAddr).b2,
          0x04#8 ++ (frameTypeCode (rtuDecode f s.myAddr).ftype).setWidth 8, 0x04#8 ++ (rtuDecode f s.myAddr).plen,
          0x04#8 ++ lo (rtuDecode f s.myAddr).crc, 0x04#8 ++ hi (rtuDecode f s.myAddr).crc] ∧
      rs.length = before.length ∧ payBytes rs = (rtuDecode f s.myAddr).payload ∧
      (∀ r ∈ rs, r = 0x0000 ∨ hi r = 0x02 ∨ hi r = 0x04) ∧
      t.mode = .idle ∧ t.fShort = (rtuDecode f s.myAddr).fShort ∧ t.fLong = (rtuDecode f s.myAddr).fLong ∧
      t.fCrc = (rtuDecode f s.myAddr).fCrc ∧ t.fAddr = (rtuDecode f s.myAddr).fAddr ∧
      status.extractLsb' 6 2 = 0 ∧ status.getLsbD 3 = (rtuDecode f s.myAddr).fAddr ∧
      status.getLsbD 2 = (rtuDecode f s.myAddr).fCrc ∧ status.getLsbD 1 = (rtuDecode f s.myAddr).fLong ∧
      status.getLsbD 0 = (rtuDecode f s.myAddr).fShort

/-- The round trip the spec derives in 45_envelope.md section 3: decoding an encoded frame gives verdict OK and the frame back for
this station, NOTME for another address or for address 0, LONG for a body over 252 bytes. -/
def Obligations.DecodeOfEncodeRoundTrip : Prop :=
  ∀ (x : FrameSpec) (myAddr : Byte),
    (x.body.length ≤ 252 → x.addr = myAddr → x.addr ≠ 0x00 →
      (rtuDecode (rtuEncode x) myAddr).verdict = .ok ∧ (rtuDecode (rtuEncode x) myAddr).addr = x.addr ∧
      (rtuDecode (rtuEncode x) myAddr).fc = x.fc &&& 0x7F ∧ (rtuDecode (rtuEncode x) myAddr).payload = x.body ∧
      (rtuDecode (rtuEncode x) myAddr).plen.toNat = x.body.length ∧
      (rtuDecode (rtuEncode x) myAddr).ftype =
        (if x.exception = true ∨ x.fc.getLsbD 7 = true then .exception else .request)) ∧
    (x.body.length ≤ 252 → x.addr ≠ myAddr ∨ x.addr = 0x00 → (rtuDecode (rtuEncode x) myAddr).verdict = .notme) ∧
    (x.body.length > 252 → (rtuDecode (rtuEncode x) myAddr).verdict = .long)

/-- The equivalence with the residue test that the spec derives in 43_verify.md section 4: for two bytes or more, F_CRC is 0 after
VEND exactly when the CRC of the whole frame, CRC bytes included, is 0x0000; for fewer it is 1. -/
def Obligations.CrcFlagIsTheResidueTest : Prop :=
  ∀ (s : State) (f : List Byte),
    ∃ t, runCommands ([.vbeg] ++ f.map .vbyte ++ [.vend]) s = .next t ∧
      (f.length ≥ 2 → (t.fCrc = false ↔ crc16 f = 0x0000)) ∧ (f.length < 2 → t.fCrc = true)

/-- The clause of R140 that "clearing everything makes each frame's outcome independent of every earlier frame": after VBEG, two
blocks of one station address give the same answers (RDST apart, which shows the sticky flags) and end with the same registers. -/
def Obligations.FrameOutcomeIndependentOfHistory : Prop :=
  ∀ (s u : State) (cs : List Instr), s.myAddr = u.myAddr → .rdst ∉ cs →
    ∃ (t v : State) (rs : List Word),
      runCommands (.vbeg :: cs) s = .next t ∧ runCommands (.vbeg :: cs) u = .next v ∧
      t.responses = s.responses ++ rs ∧ v.responses = u.responses ++ rs ∧
      v = { t with eIll := v.eIll, eSeq := v.eSeq, responses := v.responses }

/-- The life of the results that the spec derives in 10_state.md section 7: generate commands, reads and NOP, in any number and
order, leave every capture register, result register, result flag and the verifier's H0, H1 and CNT as they were. -/
def Obligations.ResultsSurviveGeneration : Prop :=
  ∀ (s : State) (cs : List Instr), (∀ i ∈ cs, isGenerate i = true ∨ isTransparent i = true) →
    ∃ t, runCommands cs s = .next t ∧
      t = { s with crc := t.crc, mode := t.mode, eSeq := t.eSeq, inputs := [], responses := t.responses }

/-- The document's round-trip property at the ports (42_generate.md section 6 and 45_envelope.md section 3): the WIRE bytes of a
generated frame, fed to any block whose MYADDR is the frame's nonzero address, get VERD OK and come out as the payload. -/
def Obligations.GeneratedFrameIsAccepted : Prop :=
  ∀ (s u : State) (a fc : Byte) (body : List Byte), a ≠ 0x00 → u.myAddr = a → body.length ≤ 252 →
    ∃ (t v : State) (rs qs : List Word),
      runCommands (expand (.gframe ([a, fc] ++ body))) s = .next t ∧ t.responses = s.responses ++ rs ∧
      runCommands (expand (.vframe (wireBytes rs))) u = .next v ∧ v.responses = u.responses ++ qs ++ [0x0301] ∧
      payBytes qs = body ∧ v.addr = a ∧ v.fcb = fc ∧ v.plen.toNat = body.length

/-- The pseudo-instruction CRC16 of 30_encoding.md section 7, used as 44_readout.md section 10 derives: its last two responses are
the low and the high byte of the CRC of its bytes, in any state, and MODE stays GEN. -/
def Obligations.Crc16PseudoComputesTheCrc : Prop :=
  ∀ (s : State) (bs : List Byte),
    ∃ (t : State) (rs : List Word),
      runCommands (expand (.crc16 bs)) s = .next t ∧
      t.responses = s.responses ++ rs ++ [0x04#8 ++ lo (crc16 bs), 0x04#8 ++ hi (crc16 bs)] ∧
      wireBytes rs = bs ∧ t.mode = .gen
end

