-- ==== Sys2Proof/Laws/State.lean ====
section
/-! SUPPORT. One lemma per field of State per named update, so that no proof unfolds a record update. -/

namespace Sys2Proof.Machine

/-! ### respond -/

@[simp] theorem respond_crc (r : Response) (s : State) : (respond r s).crc = s.crc := rfl
@[simp] theorem respond_h0 (r : Response) (s : State) : (respond r s).h0 = s.h0 := rfl
@[simp] theorem respond_h1 (r : Response) (s : State) : (respond r s).h1 = s.h1 := rfl
@[simp] theorem respond_cnt (r : Response) (s : State) : (respond r s).cnt = s.cnt := rfl
@[simp] theorem respond_mode (r : Response) (s : State) : (respond r s).mode = s.mode := rfl
@[simp] theorem respond_addr (r : Response) (s : State) : (respond r s).addr = s.addr := rfl
@[simp] theorem respond_fcb (r : Response) (s : State) : (respond r s).fcb = s.fcb := rfl
@[simp] theorem respond_b2 (r : Response) (s : State) : (respond r s).b2 = s.b2 := rfl
@[simp] theorem respond_ftype (r : Response) (s : State) : (respond r s).ftype = s.ftype := rfl
@[simp] theorem respond_plen (r : Response) (s : State) : (respond r s).plen = s.plen := rfl
@[simp] theorem respond_fShort (r : Response) (s : State) : (respond r s).fShort = s.fShort := rfl
@[simp] theorem respond_fLong (r : Response) (s : State) : (respond r s).fLong = s.fLong := rfl
@[simp] theorem respond_fCrc (r : Response) (s : State) : (respond r s).fCrc = s.fCrc := rfl
@[simp] theorem respond_fAddr (r : Response) (s : State) : (respond r s).fAddr = s.fAddr := rfl
@[simp] theorem respond_eIll (r : Response) (s : State) : (respond r s).eIll = s.eIll := rfl
@[simp] theorem respond_eSeq (r : Response) (s : State) : (respond r s).eSeq = s.eSeq := rfl
@[simp] theorem respond_myAddr (r : Response) (s : State) : (respond r s).myAddr = s.myAddr := rfl
@[simp] theorem respond_inputs (r : Response) (s : State) : (respond r s).inputs = s.inputs := rfl
@[simp] theorem respond_responses (r : Response) (s : State) : (respond r s).responses = s.responses ++ [responseWord r] := rfl

/-! ### setSticky -/

@[simp] theorem setSticky_crc (e : ErrCode) (s : State) : (setSticky e s).crc = s.crc := by cases e <;> simp [setSticky]
@[simp] theorem setSticky_h0 (e : ErrCode) (s : State) : (setSticky e s).h0 = s.h0 := by cases e <;> simp [setSticky]
@[simp] theorem setSticky_h1 (e : ErrCode) (s : State) : (setSticky e s).h1 = s.h1 := by cases e <;> simp [setSticky]
@[simp] theorem setSticky_cnt (e : ErrCode) (s : State) : (setSticky e s).cnt = s.cnt := by cases e <;> simp [setSticky]
@[simp] theorem setSticky_mode (e : ErrCode) (s : State) : (setSticky e s).mode = s.mode := by cases e <;> simp [setSticky]
@[simp] theorem setSticky_addr (e : ErrCode) (s : State) : (setSticky e s).addr = s.addr := by cases e <;> simp [setSticky]
@[simp] theorem setSticky_fcb (e : ErrCode) (s : State) : (setSticky e s).fcb = s.fcb := by cases e <;> simp [setSticky]
@[simp] theorem setSticky_b2 (e : ErrCode) (s : State) : (setSticky e s).b2 = s.b2 := by cases e <;> simp [setSticky]
@[simp] theorem setSticky_ftype (e : ErrCode) (s : State) : (setSticky e s).ftype = s.ftype := by cases e <;> simp [setSticky]
@[simp] theorem setSticky_plen (e : ErrCode) (s : State) : (setSticky e s).plen = s.plen := by cases e <;> simp [setSticky]
@[simp] theorem setSticky_fShort (e : ErrCode) (s : State) : (setSticky e s).fShort = s.fShort := by cases e <;> simp [setSticky]
@[simp] theorem setSticky_fLong (e : ErrCode) (s : State) : (setSticky e s).fLong = s.fLong := by cases e <;> simp [setSticky]
@[simp] theorem setSticky_fCrc (e : ErrCode) (s : State) : (setSticky e s).fCrc = s.fCrc := by cases e <;> simp [setSticky]
@[simp] theorem setSticky_fAddr (e : ErrCode) (s : State) : (setSticky e s).fAddr = s.fAddr := by cases e <;> simp [setSticky]
@[simp] theorem setSticky_eIll (e : ErrCode) (s : State) : (setSticky e s).eIll = (s.eIll || e == .ill) := by cases e <;> simp [setSticky]
@[simp] theorem setSticky_eSeq (e : ErrCode) (s : State) : (setSticky e s).eSeq = (s.eSeq || e == .seq) := by cases e <;> simp [setSticky]
@[simp] theorem setSticky_myAddr (e : ErrCode) (s : State) : (setSticky e s).myAddr = s.myAddr := by cases e <;> simp [setSticky]
@[simp] theorem setSticky_inputs (e : ErrCode) (s : State) : (setSticky e s).inputs = s.inputs := by cases e <;> simp [setSticky]
@[simp] theorem setSticky_responses (e : ErrCode) (s : State) : (setSticky e s).responses = s.responses := by cases e <;> simp [setSticky]

/-! ### raiseErr -/

@[simp] theorem raiseErr_crc (e : ErrCode) (s : State) : (raiseErr e s).crc = s.crc := by cases e <;> simp [raiseErr]
@[simp] theorem raiseErr_h0 (e : ErrCode) (s : State) : (raiseErr e s).h0 = s.h0 := by cases e <;> simp [raiseErr]
@[simp] theorem raiseErr_h1 (e : ErrCode) (s : State) : (raiseErr e s).h1 = s.h1 := by cases e <;> simp [raiseErr]
@[simp] theorem raiseErr_cnt (e : ErrCode) (s : State) : (raiseErr e s).cnt = s.cnt := by cases e <;> simp [raiseErr]
@[simp] theorem raiseErr_mode (e : ErrCode) (s : State) : (raiseErr e s).mode = s.mode := by cases e <;> simp [raiseErr]
@[simp] theorem raiseErr_addr (e : ErrCode) (s : State) : (raiseErr e s).addr = s.addr := by cases e <;> simp [raiseErr]
@[simp] theorem raiseErr_fcb (e : ErrCode) (s : State) : (raiseErr e s).fcb = s.fcb := by cases e <;> simp [raiseErr]
@[simp] theorem raiseErr_b2 (e : ErrCode) (s : State) : (raiseErr e s).b2 = s.b2 := by cases e <;> simp [raiseErr]
@[simp] theorem raiseErr_ftype (e : ErrCode) (s : State) : (raiseErr e s).ftype = s.ftype := by cases e <;> simp [raiseErr]
@[simp] theorem raiseErr_plen (e : ErrCode) (s : State) : (raiseErr e s).plen = s.plen := by cases e <;> simp [raiseErr]
@[simp] theorem raiseErr_fShort (e : ErrCode) (s : State) : (raiseErr e s).fShort = s.fShort := by cases e <;> simp [raiseErr]
@[simp] theorem raiseErr_fLong (e : ErrCode) (s : State) : (raiseErr e s).fLong = s.fLong := by cases e <;> simp [raiseErr]
@[simp] theorem raiseErr_fCrc (e : ErrCode) (s : State) : (raiseErr e s).fCrc = s.fCrc := by cases e <;> simp [raiseErr]
@[simp] theorem raiseErr_fAddr (e : ErrCode) (s : State) : (raiseErr e s).fAddr = s.fAddr := by cases e <;> simp [raiseErr]
@[simp] theorem raiseErr_eIll (e : ErrCode) (s : State) : (raiseErr e s).eIll = (s.eIll || e == .ill) := by cases e <;> simp [raiseErr]
@[simp] theorem raiseErr_eSeq (e : ErrCode) (s : State) : (raiseErr e s).eSeq = (s.eSeq || e == .seq) := by cases e <;> simp [raiseErr]
@[simp] theorem raiseErr_myAddr (e : ErrCode) (s : State) : (raiseErr e s).myAddr = s.myAddr := by cases e <;> simp [raiseErr]
@[simp] theorem raiseErr_inputs (e : ErrCode) (s : State) : (raiseErr e s).inputs = s.inputs := by cases e <;> simp [raiseErr]
@[simp] theorem raiseErr_responses (e : ErrCode) (s : State) : (raiseErr e s).responses = s.responses ++ [responseWord (.err e)] := by cases e <;> simp [raiseErr]

/-! ### setMode -/

@[simp] theorem setMode_crc (m : Mode) (s : State) : (setMode m s).crc = s.crc := rfl
@[simp] theorem setMode_h0 (m : Mode) (s : State) : (setMode m s).h0 = s.h0 := rfl
@[simp] theorem setMode_h1 (m : Mode) (s : State) : (setMode m s).h1 = s.h1 := rfl
@[simp] theorem setMode_cnt (m : Mode) (s : State) : (setMode m s).cnt = s.cnt := rfl
@[simp] theorem setMode_mode (m : Mode) (s : State) : (setMode m s).mode = m := rfl
@[simp] theorem setMode_addr (m : Mode) (s : State) : (setMode m s).addr = s.addr := rfl
@[simp] theorem setMode_fcb (m : Mode) (s : State) : (setMode m s).fcb = s.fcb := rfl
@[simp] theorem setMode_b2 (m : Mode) (s : State) : (setMode m s).b2 = s.b2 := rfl
@[simp] theorem setMode_ftype (m : Mode) (s : State) : (setMode m s).ftype = s.ftype := rfl
@[simp] theorem setMode_plen (m : Mode) (s : State) : (setMode m s).plen = s.plen := rfl
@[simp] theorem setMode_fShort (m : Mode) (s : State) : (setMode m s).fShort = s.fShort := rfl
@[simp] theorem setMode_fLong (m : Mode) (s : State) : (setMode m s).fLong = s.fLong := rfl
@[simp] theorem setMode_fCrc (m : Mode) (s : State) : (setMode m s).fCrc = s.fCrc := rfl
@[simp] theorem setMode_fAddr (m : Mode) (s : State) : (setMode m s).fAddr = s.fAddr := rfl
@[simp] theorem setMode_eIll (m : Mode) (s : State) : (setMode m s).eIll = s.eIll := rfl
@[simp] theorem setMode_eSeq (m : Mode) (s : State) : (setMode m s).eSeq = s.eSeq := rfl
@[simp] theorem setMode_myAddr (m : Mode) (s : State) : (setMode m s).myAddr = s.myAddr := rfl
@[simp] theorem setMode_inputs (m : Mode) (s : State) : (setMode m s).inputs = s.inputs := rfl
@[simp] theorem setMode_responses (m : Mode) (s : State) : (setMode m s).responses = s.responses := rfl

/-! ### setCrc -/

@[simp] theorem setCrc_crc (c : Word) (s : State) : (setCrc c s).crc = c := rfl
@[simp] theorem setCrc_h0 (c : Word) (s : State) : (setCrc c s).h0 = s.h0 := rfl
@[simp] theorem setCrc_h1 (c : Word) (s : State) : (setCrc c s).h1 = s.h1 := rfl
@[simp] theorem setCrc_cnt (c : Word) (s : State) : (setCrc c s).cnt = s.cnt := rfl
@[simp] theorem setCrc_mode (c : Word) (s : State) : (setCrc c s).mode = s.mode := rfl
@[simp] theorem setCrc_addr (c : Word) (s : State) : (setCrc c s).addr = s.addr := rfl
@[simp] theorem setCrc_fcb (c : Word) (s : State) : (setCrc c s).fcb = s.fcb := rfl
@[simp] theorem setCrc_b2 (c : Word) (s : State) : (setCrc c s).b2 = s.b2 := rfl
@[simp] theorem setCrc_ftype (c : Word) (s : State) : (setCrc c s).ftype = s.ftype := rfl
@[simp] theorem setCrc_plen (c : Word) (s : State) : (setCrc c s).plen = s.plen := rfl
@[simp] theorem setCrc_fShort (c : Word) (s : State) : (setCrc c s).fShort = s.fShort := rfl
@[simp] theorem setCrc_fLong (c : Word) (s : State) : (setCrc c s).fLong = s.fLong := rfl
@[simp] theorem setCrc_fCrc (c : Word) (s : State) : (setCrc c s).fCrc = s.fCrc := rfl
@[simp] theorem setCrc_fAddr (c : Word) (s : State) : (setCrc c s).fAddr = s.fAddr := rfl
@[simp] theorem setCrc_eIll (c : Word) (s : State) : (setCrc c s).eIll = s.eIll := rfl
@[simp] theorem setCrc_eSeq (c : Word) (s : State) : (setCrc c s).eSeq = s.eSeq := rfl
@[simp] theorem setCrc_myAddr (c : Word) (s : State) : (setCrc c s).myAddr = s.myAddr := rfl
@[simp] theorem setCrc_inputs (c : Word) (s : State) : (setCrc c s).inputs = s.inputs := rfl
@[simp] theorem setCrc_responses (c : Word) (s : State) : (setCrc c s).responses = s.responses := rfl

/-! ### absorb -/

@[simp] theorem absorb_crc (b : Byte) (s : State) : (absorb b s).crc = crcUpd s.crc b := rfl
@[simp] theorem absorb_h0 (b : Byte) (s : State) : (absorb b s).h0 = s.h0 := rfl
@[simp] theorem absorb_h1 (b : Byte) (s : State) : (absorb b s).h1 = s.h1 := rfl
@[simp] theorem absorb_cnt (b : Byte) (s : State) : (absorb b s).cnt = s.cnt := rfl
@[simp] theorem absorb_mode (b : Byte) (s : State) : (absorb b s).mode = s.mode := rfl
@[simp] theorem absorb_addr (b : Byte) (s : State) : (absorb b s).addr = s.addr := rfl
@[simp] theorem absorb_fcb (b : Byte) (s : State) : (absorb b s).fcb = s.fcb := rfl
@[simp] theorem absorb_b2 (b : Byte) (s : State) : (absorb b s).b2 = s.b2 := rfl
@[simp] theorem absorb_ftype (b : Byte) (s : State) : (absorb b s).ftype = s.ftype := rfl
@[simp] theorem absorb_plen (b : Byte) (s : State) : (absorb b s).plen = s.plen := rfl
@[simp] theorem absorb_fShort (b : Byte) (s : State) : (absorb b s).fShort = s.fShort := rfl
@[simp] theorem absorb_fLong (b : Byte) (s : State) : (absorb b s).fLong = s.fLong := rfl
@[simp] theorem absorb_fCrc (b : Byte) (s : State) : (absorb b s).fCrc = s.fCrc := rfl
@[simp] theorem absorb_fAddr (b : Byte) (s : State) : (absorb b s).fAddr = s.fAddr := rfl
@[simp] theorem absorb_eIll (b : Byte) (s : State) : (absorb b s).eIll = s.eIll := rfl
@[simp] theorem absorb_eSeq (b : Byte) (s : State) : (absorb b s).eSeq = s.eSeq := rfl
@[simp] theorem absorb_myAddr (b : Byte) (s : State) : (absorb b s).myAddr = s.myAddr := rfl
@[simp] theorem absorb_inputs (b : Byte) (s : State) : (absorb b s).inputs = s.inputs := rfl
@[simp] theorem absorb_responses (b : Byte) (s : State) : (absorb b s).responses = s.responses := rfl

/-! ### clearFrame -/

@[simp] theorem clearFrame_crc (s : State) : (clearFrame s).crc = 0xFFFF := rfl
@[simp] theorem clearFrame_h0 (s : State) : (clearFrame s).h0 = 0 := rfl
@[simp] theorem clearFrame_h1 (s : State) : (clearFrame s).h1 = 0 := rfl
@[simp] theorem clearFrame_cnt (s : State) : (clearFrame s).cnt = 0 := rfl
@[simp] theorem clearFrame_mode (s : State) : (clearFrame s).mode = s.mode := rfl
@[simp] theorem clearFrame_addr (s : State) : (clearFrame s).addr = 0 := rfl
@[simp] theorem clearFrame_fcb (s : State) : (clearFrame s).fcb = 0 := rfl
@[simp] theorem clearFrame_b2 (s : State) : (clearFrame s).b2 = 0 := rfl
@[simp] theorem clearFrame_ftype (s : State) : (clearFrame s).ftype = .none := rfl
@[simp] theorem clearFrame_plen (s : State) : (clearFrame s).plen = 0 := rfl
@[simp] theorem clearFrame_fShort (s : State) : (clearFrame s).fShort = false := rfl
@[simp] theorem clearFrame_fLong (s : State) : (clearFrame s).fLong = false := rfl
@[simp] theorem clearFrame_fCrc (s : State) : (clearFrame s).fCrc = false := rfl
@[simp] theorem clearFrame_fAddr (s : State) : (clearFrame s).fAddr = false := rfl
@[simp] theorem clearFrame_eIll (s : State) : (clearFrame s).eIll = s.eIll := rfl
@[simp] theorem clearFrame_eSeq (s : State) : (clearFrame s).eSeq = s.eSeq := rfl
@[simp] theorem clearFrame_myAddr (s : State) : (clearFrame s).myAddr = s.myAddr := rfl
@[simp] theorem clearFrame_inputs (s : State) : (clearFrame s).inputs = s.inputs := rfl
@[simp] theorem clearFrame_responses (s : State) : (clearFrame s).responses = s.responses := rfl

/-! ### resetBlock -/

@[simp] theorem resetBlock_crc (s : State) : (resetBlock s).crc = 0xFFFF := rfl
@[simp] theorem resetBlock_h0 (s : State) : (resetBlock s).h0 = 0 := rfl
@[simp] theorem resetBlock_h1 (s : State) : (resetBlock s).h1 = 0 := rfl
@[simp] theorem resetBlock_cnt (s : State) : (resetBlock s).cnt = 0 := rfl
@[simp] theorem resetBlock_mode (s : State) : (resetBlock s).mode = .idle := rfl
@[simp] theorem resetBlock_addr (s : State) : (resetBlock s).addr = 0 := rfl
@[simp] theorem resetBlock_fcb (s : State) : (resetBlock s).fcb = 0 := rfl
@[simp] theorem resetBlock_b2 (s : State) : (resetBlock s).b2 = 0 := rfl
@[simp] theorem resetBlock_ftype (s : State) : (resetBlock s).ftype = .none := rfl
@[simp] theorem resetBlock_plen (s : State) : (resetBlock s).plen = 0 := rfl
@[simp] theorem resetBlock_fShort (s : State) : (resetBlock s).fShort = false := rfl
@[simp] theorem resetBlock_fLong (s : State) : (resetBlock s).fLong = false := rfl
@[simp] theorem resetBlock_fCrc (s : State) : (resetBlock s).fCrc = false := rfl
@[simp] theorem resetBlock_fAddr (s : State) : (resetBlock s).fAddr = false := rfl
@[simp] theorem resetBlock_eIll (s : State) : (resetBlock s).eIll = false := rfl
@[simp] theorem resetBlock_eSeq (s : State) : (resetBlock s).eSeq = false := rfl
@[simp] theorem resetBlock_myAddr (s : State) : (resetBlock s).myAddr = s.myAddr := rfl
@[simp] theorem resetBlock_inputs (s : State) : (resetBlock s).inputs = s.inputs := rfl
@[simp] theorem resetBlock_responses (s : State) : (resetBlock s).responses = s.responses := rfl

/-! ### takeByte -/

@[simp] theorem takeByte_crc (d : Byte) (s : State) : (takeByte d s).crc = if 2 ≤ s.cnt.toNat then crcUpd s.crc s.h1 else s.crc := rfl
@[simp] theorem takeByte_h0 (d : Byte) (s : State) : (takeByte d s).h0 = d := rfl
@[simp] theorem takeByte_h1 (d : Byte) (s : State) : (takeByte d s).h1 = s.h0 := rfl
@[simp] theorem takeByte_cnt (d : Byte) (s : State) : (takeByte d s).cnt = countUp s.cnt := rfl
@[simp] theorem takeByte_mode (d : Byte) (s : State) : (takeByte d s).mode = s.mode := rfl
@[simp] theorem takeByte_addr (d : Byte) (s : State) : (takeByte d s).addr = if s.cnt.toNat = 0 then d else s.addr := rfl
@[simp] theorem takeByte_fcb (d : Byte) (s : State) : (takeByte d s).fcb = if s.cnt.toNat = 1 then d else s.fcb := rfl
@[simp] theorem takeByte_b2 (d : Byte) (s : State) : (takeByte d s).b2 = if s.cnt.toNat = 2 then d else s.b2 := rfl
@[simp] theorem takeByte_ftype (d : Byte) (s : State) : (takeByte d s).ftype = s.ftype := rfl
@[simp] theorem takeByte_plen (d : Byte) (s : State) : (takeByte d s).plen = s.plen := rfl
@[simp] theorem takeByte_fShort (d : Byte) (s : State) : (takeByte d s).fShort = s.fShort := rfl
@[simp] theorem takeByte_fLong (d : Byte) (s : State) : (takeByte d s).fLong = s.fLong := rfl
@[simp] theorem takeByte_fCrc (d : Byte) (s : State) : (takeByte d s).fCrc = s.fCrc := rfl
@[simp] theorem takeByte_fAddr (d : Byte) (s : State) : (takeByte d s).fAddr = s.fAddr := rfl
@[simp] theorem takeByte_eIll (d : Byte) (s : State) : (takeByte d s).eIll = s.eIll := rfl
@[simp] theorem takeByte_eSeq (d : Byte) (s : State) : (takeByte d s).eSeq = s.eSeq := rfl
@[simp] theorem takeByte_myAddr (d : Byte) (s : State) : (takeByte d s).myAddr = s.myAddr := rfl
@[simp] theorem takeByte_inputs (d : Byte) (s : State) : (takeByte d s).inputs = s.inputs := rfl
@[simp] theorem takeByte_responses (d : Byte) (s : State) : (takeByte d s).responses = s.responses := rfl

/-! ### recordVerdict -/

@[simp] theorem recordVerdict_crc (s : State) : (recordVerdict s).crc = s.crc := rfl
@[simp] theorem recordVerdict_h0 (s : State) : (recordVerdict s).h0 = s.h0 := rfl
@[simp] theorem recordVerdict_h1 (s : State) : (recordVerdict s).h1 = s.h1 := rfl
@[simp] theorem recordVerdict_cnt (s : State) : (recordVerdict s).cnt = s.cnt := rfl
@[simp] theorem recordVerdict_mode (s : State) : (recordVerdict s).mode = s.mode := rfl
@[simp] theorem recordVerdict_addr (s : State) : (recordVerdict s).addr = s.addr := rfl
@[simp] theorem recordVerdict_fcb (s : State) : (recordVerdict s).fcb = s.fcb := rfl
@[simp] theorem recordVerdict_b2 (s : State) : (recordVerdict s).b2 = s.b2 := rfl
@[simp] theorem recordVerdict_ftype (s : State) : (recordVerdict s).ftype = frameTypeOf (frameVerdict s) s.fcb := rfl
@[simp] theorem recordVerdict_plen (s : State) : (recordVerdict s).plen = payloadLength s.cnt.toNat := rfl
@[simp] theorem recordVerdict_fShort (s : State) : (recordVerdict s).fShort = frameShort s := rfl
@[simp] theorem recordVerdict_fLong (s : State) : (recordVerdict s).fLong = frameLong s := rfl
@[simp] theorem recordVerdict_fCrc (s : State) : (recordVerdict s).fCrc = frameCrc s := rfl
@[simp] theorem recordVerdict_fAddr (s : State) : (recordVerdict s).fAddr = frameAddr s := rfl
@[simp] theorem recordVerdict_eIll (s : State) : (recordVerdict s).eIll = s.eIll := rfl
@[simp] theorem recordVerdict_eSeq (s : State) : (recordVerdict s).eSeq = s.eSeq := rfl
@[simp] theorem recordVerdict_myAddr (s : State) : (recordVerdict s).myAddr = s.myAddr := rfl
@[simp] theorem recordVerdict_inputs (s : State) : (recordVerdict s).inputs = s.inputs := rfl
@[simp] theorem recordVerdict_responses (s : State) : (recordVerdict s).responses = s.responses := rfl

/-! ### presentWord -/

@[simp] theorem presentWord_crc (w : Word) (s : State) : (presentWord w s).crc = s.crc := rfl
@[simp] theorem presentWord_h0 (w : Word) (s : State) : (presentWord w s).h0 = s.h0 := rfl
@[simp] theorem presentWord_h1 (w : Word) (s : State) : (presentWord w s).h1 = s.h1 := rfl
@[simp] theorem presentWord_cnt (w : Word) (s : State) : (presentWord w s).cnt = s.cnt := rfl
@[simp] theorem presentWord_mode (w : Word) (s : State) : (presentWord w s).mode = s.mode := rfl
@[simp] theorem presentWord_addr (w : Word) (s : State) : (presentWord w s).addr = s.addr := rfl
@[simp] theorem presentWord_fcb (w : Word) (s : State) : (presentWord w s).fcb = s.fcb := rfl
@[simp] theorem presentWord_b2 (w : Word) (s : State) : (presentWord w s).b2 = s.b2 := rfl
@[simp] theorem presentWord_ftype (w : Word) (s : State) : (presentWord w s).ftype = s.ftype := rfl
@[simp] theorem presentWord_plen (w : Word) (s : State) : (presentWord w s).plen = s.plen := rfl
@[simp] theorem presentWord_fShort (w : Word) (s : State) : (presentWord w s).fShort = s.fShort := rfl
@[simp] theorem presentWord_fLong (w : Word) (s : State) : (presentWord w s).fLong = s.fLong := rfl
@[simp] theorem presentWord_fCrc (w : Word) (s : State) : (presentWord w s).fCrc = s.fCrc := rfl
@[simp] theorem presentWord_fAddr (w : Word) (s : State) : (presentWord w s).fAddr = s.fAddr := rfl
@[simp] theorem presentWord_eIll (w : Word) (s : State) : (presentWord w s).eIll = s.eIll := rfl
@[simp] theorem presentWord_eSeq (w : Word) (s : State) : (presentWord w s).eSeq = s.eSeq := rfl
@[simp] theorem presentWord_myAddr (w : Word) (s : State) : (presentWord w s).myAddr = s.myAddr := rfl
@[simp] theorem presentWord_inputs (w : Word) (s : State) : (presentWord w s).inputs = .command w :: s.inputs := rfl
@[simp] theorem presentWord_responses (w : Word) (s : State) : (presentWord w s).responses = s.responses := rfl

/-! ### presentEvents -/

@[simp] theorem presentEvents_crc (es : List PortEvent) (s : State) : (presentEvents es s).crc = s.crc := rfl
@[simp] theorem presentEvents_h0 (es : List PortEvent) (s : State) : (presentEvents es s).h0 = s.h0 := rfl
@[simp] theorem presentEvents_h1 (es : List PortEvent) (s : State) : (presentEvents es s).h1 = s.h1 := rfl
@[simp] theorem presentEvents_cnt (es : List PortEvent) (s : State) : (presentEvents es s).cnt = s.cnt := rfl
@[simp] theorem presentEvents_mode (es : List PortEvent) (s : State) : (presentEvents es s).mode = s.mode := rfl
@[simp] theorem presentEvents_addr (es : List PortEvent) (s : State) : (presentEvents es s).addr = s.addr := rfl
@[simp] theorem presentEvents_fcb (es : List PortEvent) (s : State) : (presentEvents es s).fcb = s.fcb := rfl
@[simp] theorem presentEvents_b2 (es : List PortEvent) (s : State) : (presentEvents es s).b2 = s.b2 := rfl
@[simp] theorem presentEvents_ftype (es : List PortEvent) (s : State) : (presentEvents es s).ftype = s.ftype := rfl
@[simp] theorem presentEvents_plen (es : List PortEvent) (s : State) : (presentEvents es s).plen = s.plen := rfl
@[simp] theorem presentEvents_fShort (es : List PortEvent) (s : State) : (presentEvents es s).fShort = s.fShort := rfl
@[simp] theorem presentEvents_fLong (es : List PortEvent) (s : State) : (presentEvents es s).fLong = s.fLong := rfl
@[simp] theorem presentEvents_fCrc (es : List PortEvent) (s : State) : (presentEvents es s).fCrc = s.fCrc := rfl
@[simp] theorem presentEvents_fAddr (es : List PortEvent) (s : State) : (presentEvents es s).fAddr = s.fAddr := rfl
@[simp] theorem presentEvents_eIll (es : List PortEvent) (s : State) : (presentEvents es s).eIll = s.eIll := rfl
@[simp] theorem presentEvents_eSeq (es : List PortEvent) (s : State) : (presentEvents es s).eSeq = s.eSeq := rfl
@[simp] theorem presentEvents_myAddr (es : List PortEvent) (s : State) : (presentEvents es s).myAddr = s.myAddr := rfl
@[simp] theorem presentEvents_inputs (es : List PortEvent) (s : State) : (presentEvents es s).inputs = es := rfl
@[simp] theorem presentEvents_responses (es : List PortEvent) (s : State) : (presentEvents es s).responses = s.responses := rfl

/-! ### present -/

@[simp] theorem present_crc (cs : List Instr) (s : State) : (present cs s).crc = s.crc := rfl
@[simp] theorem present_h0 (cs : List Instr) (s : State) : (present cs s).h0 = s.h0 := rfl
@[simp] theorem present_h1 (cs : List Instr) (s : State) : (present cs s).h1 = s.h1 := rfl
@[simp] theorem present_cnt (cs : List Instr) (s : State) : (present cs s).cnt = s.cnt := rfl
@[simp] theorem present_mode (cs : List Instr) (s : State) : (present cs s).mode = s.mode := rfl
@[simp] theorem present_addr (cs : List Instr) (s : State) : (present cs s).addr = s.addr := rfl
@[simp] theorem present_fcb (cs : List Instr) (s : State) : (present cs s).fcb = s.fcb := rfl
@[simp] theorem present_b2 (cs : List Instr) (s : State) : (present cs s).b2 = s.b2 := rfl
@[simp] theorem present_ftype (cs : List Instr) (s : State) : (present cs s).ftype = s.ftype := rfl
@[simp] theorem present_plen (cs : List Instr) (s : State) : (present cs s).plen = s.plen := rfl
@[simp] theorem present_fShort (cs : List Instr) (s : State) : (present cs s).fShort = s.fShort := rfl
@[simp] theorem present_fLong (cs : List Instr) (s : State) : (present cs s).fLong = s.fLong := rfl
@[simp] theorem present_fCrc (cs : List Instr) (s : State) : (present cs s).fCrc = s.fCrc := rfl
@[simp] theorem present_fAddr (cs : List Instr) (s : State) : (present cs s).fAddr = s.fAddr := rfl
@[simp] theorem present_eIll (cs : List Instr) (s : State) : (present cs s).eIll = s.eIll := rfl
@[simp] theorem present_eSeq (cs : List Instr) (s : State) : (present cs s).eSeq = s.eSeq := rfl
@[simp] theorem present_myAddr (cs : List Instr) (s : State) : (present cs s).myAddr = s.myAddr := rfl
@[simp] theorem present_inputs (cs : List Instr) (s : State) : (present cs s).inputs = cs.map (fun i => .command (encode i)) := rfl
@[simp] theorem present_responses (cs : List Instr) (s : State) : (present cs s).responses = s.responses := rfl

end Sys2Proof.Machine
end

