-- ==== Sys2Proof/Laws/Ops.lean ====
section
/-! SUPPORT. For each shared operation, once, what it does: the word layout, the checks, the intake and the judgement of a frame. -/

namespace Sys2Proof.Machine

/-! ### Words of two bytes -/

@[simp] theorem hi_append (a b : Byte) : hi (a ++ b) = a := by
  ext i h
  simp only [hi, BitVec.getElem_extractLsb', BitVec.getLsbD_append]
  simp [show ¬ 8 + i < 8 by omega, h]

@[simp] theorem lo_append (a b : Byte) : lo (a ++ b) = b := by
  ext i h
  simp only [lo, BitVec.getElem_extractLsb', BitVec.getLsbD_append]
  simp [h]

/-- A word is its high byte and its low byte. -/
theorem hi_append_lo (w : Word) : hi w ++ lo w = w := by
  ext i h
  simp only [hi, lo, BitVec.getElem_append, BitVec.getElem_extractLsb']
  split
  · simpa using BitVec.getLsbD_eq_getElem h
  · rw [BitVec.getLsbD_eq_getElem (by omega)]
    congr 1
    omega

/-- Joining the two CRC bytes of a word gives the word back, whichever way the bytes travelled (R42, R100). -/
@[simp] theorem joinBytes_hi_lo (w : Word) : joinBytes (hi w) (lo w) = w := hi_append_lo w

/-! ### Responses -/

@[simp] theorem hi_responseWord (r : Response) : hi (responseWord r) = responseKind r := hi_append _ _

@[simp] theorem lo_responseWord (r : Response) : lo (responseWord r) = responseData r := lo_append _ _

/-- Only an error has the error kind, so the response tells a refused command apart (R61, R110). -/
theorem responseKind_eq_err (r : Response) : responseKind r = 0x0F ↔ ∃ e, r = .err e := by
  cases r <;> simp [responseKind]

/-! ### Errors and the mode check -/

theorem raiseErr_ill (s : State) :
    raiseErr .ill s = { s with eIll := true, responses := s.responses ++ [responseWord (.err .ill)] } := rfl

theorem raiseErr_seq (s : State) :
    raiseErr .seq s = { s with eSeq := true, responses := s.responses ++ [responseWord (.err .seq)] } := rfl

theorem requireMode_of_eq {m : Mode} {s : State} (f : State → State) (h : s.mode = m) : requireMode m f s = .next (f s) :=
  if_pos h

theorem requireMode_of_ne {m : Mode} {s : State} (f : State → State) (h : s.mode ≠ m) :
    requireMode m f s = .next (raiseErr .seq s) :=
  if_neg h

/-- All the mode check can do. -/
theorem requireMode_cases {m : Mode} {f : State → State} {s t : State} (h : requireMode m f s = .next t) :
    (s.mode = m ∧ t = f s) ∨ (s.mode ≠ m ∧ t = raiseErr .seq s) := by
  by_cases hm : s.mode = m
  · rw [requireMode_of_eq f hm] at h
    exact .inl ⟨hm, by cases h; rfl⟩
  · rw [requireMode_of_ne f hm] at h
    exact .inr ⟨hm, by cases h; rfl⟩

/-! ### The verifier -/

/-- The saturating count on numbers (R13, R141 (e)). -/
@[simp] theorem countUp_toNat (k : Count) : (countUp k).toNat = min (k.toNat + 1) 257 := by
  simp only [countUp, Config.cntMax, BitVec.toNat_ofNat]
  omega

theorem flagShort_iff (n : Nat) : flagShort n = true ↔ n < 4 := by
  simp [flagShort, Config.minFrame]

theorem flagLong_iff (n : Nat) : flagLong n = true ↔ 256 < n := by
  simp [flagLong, Config.maxFrame]

theorem flagCrc_iff (n : Nat) (c e : Word) : flagCrc n c e = true ↔ n < 2 ∨ c ≠ e := by
  simp [flagCrc]

theorem flagAddr_iff (n : Nat) (a m : Byte) : flagAddr n a m = true ↔ n < 1 ∨ a ≠ m ∨ a = 0x00 := by
  simp [flagAddr, Config.broadcast, or_assoc]

/-- The verdict is OK exactly when no flag is set (R143). -/
theorem verdict_eq_ok (fs fl fc fa : Bool) :
    verdict fs fl fc fa = .ok ↔ fs = false ∧ fl = false ∧ fc = false ∧ fa = false := by
  cases fs <;> cases fl <;> cases fc <;> cases fa <;> simp [verdict]

/-- The payload length on numbers, within the frame limits (R19). -/
theorem payloadLength_toNat {n : Nat} (h : 4 ≤ n) (h' : n ≤ 256) : (payloadLength n).toNat = n - 4 := by
  simp only [payloadLength, Config.minFrame, Config.maxFrame]
  rw [if_pos ⟨h, h'⟩, BitVec.toNat_ofNat]
  omega

/-- A frame outside the limits has no payload length (R19). -/
theorem payloadLength_eq_zero {n : Nat} (h : n < 4 ∨ 256 < n) : payloadLength n = 0x00 := by
  simp only [payloadLength, Config.minFrame, Config.maxFrame]
  rw [if_neg (by omega)]

/-- FTYPE never becomes RESPONSE (R18). -/
theorem frameTypeOf_ne_response (v : Verdict) (b : Byte) : frameTypeOf v b ≠ .response := by
  simp only [frameTypeOf]
  split
  · exact fun h => nomatch h
  · split <;> exact fun h => nomatch h

/-! ### The CRC and the envelope -/

theorem crc16_append (xs ys : List Byte) : crc16 (xs ++ ys) = ys.foldl crcUpd (crc16 xs) := by
  simp [crc16]

theorem frameHead_length (x : FrameSpec) : (frameHead x).length = x.body.length + 2 := by
  simp [frameHead]

theorem rtuEncode_length (x : FrameSpec) : (rtuEncode x).length = x.body.length + 4 := by
  simp [rtuEncode, crcBytes, frameHead_length]

end Sys2Proof.Machine
end

