-- ==== Sys2Proof/Laws/Exec.lean ====
section
/-! SUPPORT. Everything `exec` can do, once: a command in a mode it may not run in is refused; any other changes the registers as
`commandEffect` says and answers as `commandAnswer` says. -/

namespace Sys2Proof.Machine

/-- What a command does to the registers in a mode it may run in, its answer apart. -/
def commandEffect : Instr → State → State
  | .nop, s => s
  | .clr, s => setMode .idle (clearFrame s)
  | .gbeg, s => setMode .gen (setCrc Config.crcInit s)
  | .gbyte d, s => absorb d s
  | .gexc d, s => absorb (markException d) s
  | .gcrl, s => setMode .gent s
  | .gcrh, s => setMode .idle s
  | .vbeg, s => setMode .chk (clearFrame s)
  | .vbyte d, s => takeByte d s
  | .vend, s => setMode .idle (recordVerdict s)
  | .rdst, s => s
  | .rdaddr, s => s
  | .rdfc, s => s
  | .rdexc, s => s
  | .rdtyp, s => s
  | .rdlen, s => s
  | .rdcrl, s => s
  | .rdcrh, s => s

/-- What a command answers in a mode it may run in. -/
def commandAnswer : Instr → State → Response
  | .nop, _ => .ack
  | .clr, _ => .ack
  | .gbeg, _ => .ack
  | .gbyte d, _ => .wire d
  | .gexc d, _ => .wire (markException d)
  | .gcrl, s => .wire (lo s.crc)
  | .gcrh, s => .wire (hi s.crc)
  | .vbeg, _ => .ack
  | .vbyte _, s => byteResponse s
  | .vend, s => .verd (frameVerdict s)
  | .rdst, s => .val (statusByte s)
  | .rdaddr, s => .val s.addr
  | .rdfc, s => .val (functionCode s.fcb)
  | .rdexc, s => .val s.b2
  | .rdtyp, s => .val ((frameTypeCode s.ftype).setWidth 8)
  | .rdlen, s => .val s.plen
  | .rdcrl, s => .val (lo s.crc)
  | .rdcrh, s => .val (hi s.crc)

theorem exec_of_mode_ne {i : Instr} {m : Mode} {s : State} (h : requiredMode i = some m) (hm : s.mode ≠ m) :
    exec i s = .next (raiseErr .seq s) := by
  cases i <;> simp only [requiredMode, reduceCtorEq, Option.some.injEq] at h <;> subst h <;>
    simp only [exec, execGbyte, execGexc, execGcrl, execGcrh, execVbyte, execVend, requireMode_of_ne _ hm]

theorem exec_of_mode_eq {i : Instr} {s : State} (h : requiredMode i = none ∨ requiredMode i = some s.mode) :
    exec i s = .next (respond (commandAnswer i s) (commandEffect i s)) := by
  cases i <;> simp only [requiredMode, reduceCtorEq, Option.some.injEq, false_or] at h <;>
    first
      | rfl
      | simp only [exec, execGbyte, execGexc, execGcrl, execGcrh, execVbyte, execVend, requireMode_of_eq _ h.symm, commandAnswer,
          commandEffect]

/-- The two cases of a command: refused for its mode, or not. -/
theorem mode_refuses_or_not (i : Instr) (s : State) :
    (∃ m, requiredMode i = some m ∧ s.mode ≠ m) ∨ (requiredMode i = none ∨ requiredMode i = some s.mode) := by
  cases h : requiredMode i with
  | none => exact .inr (.inl rfl)
  | some m =>
    by_cases hm : s.mode = m
    · exact .inr (.inr (by rw [hm]))
    · exact .inl ⟨m, rfl, hm⟩

/-- All `exec` can do. -/
theorem exec_cases {i : Instr} {s t : State} (h : exec i s = .next t) :
    (∃ m, requiredMode i = some m ∧ s.mode ≠ m ∧ t = raiseErr .seq s) ∨
    ((requiredMode i = none ∨ requiredMode i = some s.mode) ∧ t = respond (commandAnswer i s) (commandEffect i s)) := by
  rcases mode_refuses_or_not i s with ⟨m, hr, hm⟩ | hr
  · rw [exec_of_mode_ne hr hm] at h
    exact .inl ⟨m, hr, hm, by cases h; rfl⟩
  · rw [exec_of_mode_eq hr] at h
    exact .inr ⟨hr, by cases h; rfl⟩

theorem commandAnswer_ne_err (i : Instr) (s : State) (e : ErrCode) : commandAnswer i s ≠ .err e := by
  cases i <;> simp only [commandAnswer, byteResponse] <;> try split
  all_goals exact fun h => nomatch h

@[simp] theorem commandEffect_eIll (i : Instr) (s : State) : (commandEffect i s).eIll = s.eIll := by
  cases i <;> simp [commandEffect]

@[simp] theorem commandEffect_eSeq (i : Instr) (s : State) : (commandEffect i s).eSeq = s.eSeq := by
  cases i <;> simp [commandEffect]

@[simp] theorem commandEffect_myAddr (i : Instr) (s : State) : (commandEffect i s).myAddr = s.myAddr := by
  cases i <;> simp [commandEffect]

@[simp] theorem commandEffect_inputs (i : Instr) (s : State) : (commandEffect i s).inputs = s.inputs := by
  cases i <;> simp [commandEffect]

@[simp] theorem commandEffect_responses (i : Instr) (s : State) : (commandEffect i s).responses = s.responses := by
  cases i <;> simp [commandEffect]

end Sys2Proof.Machine
end

