-- ==== Sys2Proof/Laws/PerInstr.lean ====
section
/-! SUPPORT. The family `EncodedForm`: the row of the opcode map a command's word selects gives that command back (R60, R62). -/

namespace Sys2Proof.Laws

open Sys2Proof.Machine

/-- A row's test on a word given by its two bytes, for a row whose mask keeps both. -/
theorem selects_full (w : Word) : w &&& 0xFFFF = w := by
  have h : (0xFFFF : Word) = BitVec.allOnes 16 := by decide
  rw [h, BitVec.and_allOnes]

/-- A row's test on a word given by its two bytes, for a row whose mask keeps the opcode only. -/
theorem selects_opcode (a b : Byte) : (a ++ b) &&& 0xFF00#16 = a ++ 0x00#8 := by
  rw [show (0xFF00#16 : BitVec 16) = (0xFF#8 : BitVec 8) ++ (0x00#8 : BitVec 8) by decide, BitVec.and_append]
  rw [show (0xFF#8 : BitVec 8) = BitVec.allOnes 8 by decide, BitVec.and_allOnes, show b &&& 0x00#8 = 0x00#8 by simp]

namespace EncodedForm

/-- The command's word is its opcode byte, and then its data byte or 0x00; some row of the map selects the word, and builds the
command from its data byte. -/
def Statement (i : Instr) : Prop :=
  (opcodeTakesOperand (opcodeField (encode i)) = false → operandField (encode i) = 0x00) ∧
  ∃ r ∈ opcodeTable, r.selects (encode i) = true ∧ r.build (operandField (encode i)) = i

theorem nop : Statement .nop := ⟨by decide, opcodeTable[0], List.getElem_mem _, by decide, rfl⟩

theorem clr : Statement .clr := ⟨by decide, opcodeTable[1], List.getElem_mem _, by decide, rfl⟩

theorem gbeg : Statement .gbeg := ⟨by decide, opcodeTable[2], List.getElem_mem _, by decide, rfl⟩

theorem gbyte (d : Byte) : Statement (.gbyte d) := by
  refine ⟨fun h => absurd h ?_, opcodeTable[3], List.getElem_mem _, ?_, ?_⟩
  · rw [show opcodeField (encode (.gbyte d)) = 0x11 from hi_append _ _]
    decide
  · show (((0x11#8 ++ d) &&& 0xFF00#16) == 0x1100) = true
    rw [selects_opcode]
    decide
  · show Instr.gbyte (lo (0x11#8 ++ d)) = .gbyte d
    rw [lo_append]

theorem gexc (d : Byte) : Statement (.gexc d) := by
  refine ⟨fun h => absurd h ?_, opcodeTable[4], List.getElem_mem _, ?_, ?_⟩
  · rw [show opcodeField (encode (.gexc d)) = 0x12 from hi_append _ _]
    decide
  · show (((0x12#8 ++ d) &&& 0xFF00#16) == 0x1200) = true
    rw [selects_opcode]
    decide
  · show Instr.gexc (lo (0x12#8 ++ d)) = .gexc d
    rw [lo_append]

theorem gcrl : Statement .gcrl := ⟨by decide, opcodeTable[5], List.getElem_mem _, by decide, rfl⟩

theorem gcrh : Statement .gcrh := ⟨by decide, opcodeTable[6], List.getElem_mem _, by decide, rfl⟩

theorem vbeg : Statement .vbeg := ⟨by decide, opcodeTable[7], List.getElem_mem _, by decide, rfl⟩

theorem vbyte (d : Byte) : Statement (.vbyte d) := by
  refine ⟨fun h => absurd h ?_, opcodeTable[8], List.getElem_mem _, ?_, ?_⟩
  · rw [show opcodeField (encode (.vbyte d)) = 0x21 from hi_append _ _]
    decide
  · show (((0x21#8 ++ d) &&& 0xFF00#16) == 0x2100) = true
    rw [selects_opcode]
    decide
  · show Instr.vbyte (lo (0x21#8 ++ d)) = .vbyte d
    rw [lo_append]

theorem vend : Statement .vend := ⟨by decide, opcodeTable[9], List.getElem_mem _, by decide, rfl⟩

theorem rdst : Statement .rdst := ⟨by decide, opcodeTable[10], List.getElem_mem _, by decide, rfl⟩

theorem rdaddr : Statement .rdaddr := ⟨by decide, opcodeTable[11], List.getElem_mem _, by decide, rfl⟩

theorem rdfc : Statement .rdfc := ⟨by decide, opcodeTable[12], List.getElem_mem _, by decide, rfl⟩

theorem rdexc : Statement .rdexc := ⟨by decide, opcodeTable[13], List.getElem_mem _, by decide, rfl⟩

theorem rdtyp : Statement .rdtyp := ⟨by decide, opcodeTable[14], List.getElem_mem _, by decide, rfl⟩

theorem rdlen : Statement .rdlen := ⟨by decide, opcodeTable[15], List.getElem_mem _, by decide, rfl⟩

theorem rdcrl : Statement .rdcrl := ⟨by decide, opcodeTable[16], List.getElem_mem _, by decide, rfl⟩

theorem rdcrh : Statement .rdcrh := ⟨by decide, opcodeTable[17], List.getElem_mem _, by decide, rfl⟩

end EncodedForm

end Sys2Proof.Laws
end

