-- ==== Sys2Proof/Laws/Step.lean ====
section
/-! SUPPORT. Everything `step` can do, once, by what stands first at the ports. -/

namespace Sys2Proof.Machine

theorem step_idle {s : State} (h : s.inputs = []) : step s = .next s := by
  simp [step, fetch, h, idleStep]

theorem step_reset {s : State} {rest : List PortEvent} (h : s.inputs = .reset :: rest) :
    step s = .next (resetBlock { s with inputs := rest }) := by
  simp [step, fetch, h]

theorem step_illegal {s : State} {w : Word} {rest : List PortEvent} {e : IllegalWord} (h : s.inputs = .command w :: rest)
    (hd : decode w = .error e) : step s = .next (raiseErr .ill { s with inputs := rest }) := by
  simp [step, fetch, h, hd, takeIllegal]

theorem step_command {s : State} {w : Word} {rest : List PortEvent} {i : Instr} (h : s.inputs = .command w :: rest)
    (hd : decode w = .ok i) : step s = exec i { s with inputs := rest } := by
  simp [step, fetch, h, hd]

/-- All a step can do. -/
theorem step_cases {s t : State} (h : step s = .next t) :
    (s.inputs = [] ∧ t = s) ∨
    (∃ rest, s.inputs = .reset :: rest ∧ t = resetBlock { s with inputs := rest }) ∨
    (∃ w rest e, s.inputs = .command w :: rest ∧ decode w = .error e ∧ t = raiseErr .ill { s with inputs := rest }) ∨
    (∃ w rest i, s.inputs = .command w :: rest ∧ decode w = .ok i ∧ exec i { s with inputs := rest } = .next t) := by
  match hi : s.inputs with
  | [] =>
    rw [step_idle hi] at h
    exact .inl ⟨rfl, by cases h; rfl⟩
  | .reset :: rest =>
    rw [step_reset hi] at h
    exact .inr (.inl ⟨rest, rfl, by cases h; rfl⟩)
  | .command w :: rest =>
    match hd : decode w with
    | .error e =>
      rw [step_illegal hi hd] at h
      exact .inr (.inr (.inl ⟨w, rest, e, rfl, hd, by cases h; rfl⟩))
    | .ok i =>
      rw [step_command hi hd] at h
      exact .inr (.inr (.inr ⟨w, rest, i, rfl, hd, h⟩))

end Sys2Proof.Machine
end

