-- ==== Sys2Proof/Tests/Slice0.lean ====
section
/-! SUPPORT. The model's own tests. Every expected value is the spec's: the tables of 95_test_vectors.md and the examples of the
per-command sections. After them, for each statement with hypotheses, a state and operands that meet them. -/

namespace Sys2Proof.Tests

open Sys2Proof.Machine

/-! ## Well-formedness: a term each check refuses -/

theorem test_wf_refuses_unassigned_opcode : wordOpcodeAssigned 0x0200 = false ∧ wordWellFormed 0x0200 = false := by decide
theorem test_wf_refuses_nonzero_operand : wordOperandAllowed 0x2201 = false ∧ wordWellFormed 0x2201 = false := by decide
theorem test_wf_refuses_long_body :
    FrameSpec.bodyFits ⟨0x01, false, 0x03, List.replicate 253 0x00⟩ = false ∧
      FrameSpec.wellFormed ⟨0x01, false, 0x03, List.replicate 253 0x00⟩ = false := by decide +kernel
theorem test_wf_refuses_exception_of_two_bytes :
    FrameSpec.exceptionShape ⟨0x01, true, 0x03, [0x01, 0x02]⟩ = false ∧
      FrameSpec.wellFormed ⟨0x01, true, 0x03, [0x01, 0x02]⟩ = false := by decide
theorem test_wf_refuses_function_code_with_bit_7 :
    FrameSpec.functionCode7 ⟨0x01, false, 0x80, []⟩ = false ∧ FrameSpec.wellFormed ⟨0x01, false, 0x80, []⟩ = false := by decide
theorem test_wf_accepts :
    Instr.wellFormed (.gbyte 0xFF) = true ∧ wordWellFormed 0x21FF = true ∧
      FrameSpec.wellFormed ⟨0x01, true, 0x7F, [0x03]⟩ = true := by decide

/-! ## Decoding: a word of every row of R62, written out bit by bit, opcode byte and then operand byte -/

theorem test_decode_nop : decode 0b00000000_00000000 = .ok .nop := by decide
theorem test_decode_clr : decode 0b00000001_00000000 = .ok .clr := by decide
theorem test_decode_gbeg : decode 0b00010000_00000000 = .ok .gbeg := by decide
theorem test_decode_gbyte : decode 0b00010001_10001111 = .ok (.gbyte 0x8F) := by decide
theorem test_decode_gexc : decode 0b00010010_00001111 = .ok (.gexc 0x0F) := by decide
theorem test_decode_gcrl : decode 0b00010011_00000000 = .ok .gcrl := by decide
theorem test_decode_gcrh : decode 0b00010100_00000000 = .ok .gcrh := by decide
theorem test_decode_vbeg : decode 0b00100000_00000000 = .ok .vbeg := by decide
theorem test_decode_vbyte : decode 0b00100001_11001100 = .ok (.vbyte 0xCC) := by decide
theorem test_decode_vend : decode 0b00100010_00000000 = .ok .vend := by decide
theorem test_decode_rdst : decode 0b00110000_00000000 = .ok .rdst := by decide
theorem test_decode_rdaddr : decode 0b00110001_00000000 = .ok .rdaddr := by decide
theorem test_decode_rdfc : decode 0b00110010_00000000 = .ok .rdfc := by decide
theorem test_decode_rdexc : decode 0b00110011_00000000 = .ok .rdexc := by decide
theorem test_decode_rdtyp : decode 0b00110100_00000000 = .ok .rdtyp := by decide
theorem test_decode_rdlen : decode 0b00110101_00000000 = .ok .rdlen := by decide
theorem test_decode_rdcrl : decode 0b00110110_00000000 = .ok .rdcrl := by decide
theorem test_decode_rdcrh : decode 0b00110111_00000000 = .ok .rdcrh := by decide

/-- The illegal words of 95_test_vectors.md, at the edges of the unassigned opcodes and of the operand. -/
theorem test_decode_illegal :
    decode 0x0001 = .error .nonzeroOperand ∧ decode 0x1001 = .error .nonzeroOperand ∧ decode 0x13FF = .error .nonzeroOperand ∧
    decode 0x2201 = .error .nonzeroOperand ∧ decode 0x0200 = .error .unassignedOpcode ∧ decode 0x0F00 = .error .unassignedOpcode ∧
    decode 0x1500 = .error .unassignedOpcode ∧ decode 0x2300 = .error .unassignedOpcode ∧
    decode 0x3800 = .error .unassignedOpcode ∧ decode 0xFFFF = .error .unassignedOpcode := by decide

theorem test_decodeTableWord : decodeTableWord 16 0x118F = some (.gbyte 0x8F) ∧ decodeTableWord 16 0x1500 = none := by decide

/-! ## The CRC (95_test_vectors.md sections on crc_shift, crc_upd and crc16) -/

theorem test_crcShift : crcShift 0x0001 = 0xA001 ∧ crcShift 0x8000 = 0x4000 ∧ crcShift 0xFFFF = 0xDFFE := by decide
theorem test_crcUpd : crcUpd 0xFFFF 0x01 = 0x807E ∧ crcUpd 0x1234 0x34 = 0x0012 ∧ crcUpd 0x0000 0xFF = 0x4040 := by decide
theorem test_crc16 : crc16 [0x01, 0x01, 0x00, 0x00, 0x00, 0x08] = 0xCC3D ∧ crc16 [] = 0xFFFF := by decide +kernel
theorem test_crcBytes : crcBytes 0xCC3D = [0x3D, 0xCC] ∧ joinBytes 0xCC 0x3D = 0xCC3D := by decide
theorem test_rtuEncode : rtuEncode ⟨0x01, true, 0x0F, [0x03]⟩ = [0x01, 0x8F, 0x03, 0x04, 0x31] := by decide +kernel
theorem test_rtuDecode :
    (rtuDecode [0x01, 0x8F, 0x03, 0x04, 0x31] 0x01).verdict = .ok ∧ (rtuDecode [0x01, 0x8F, 0x03, 0x04, 0x31] 0x01).fc = 0x0F ∧
    (rtuDecode [0x01, 0x8F, 0x03, 0x04, 0x31] 0x01).ftype = .exception ∧
    (rtuDecode [0x01, 0x8F, 0x03, 0x04, 0x31] 0x01).payload = [0x03] := by decide +kernel

/-! ## One step -/

/-- The next state of an outcome. -/
def after : Host.Outcome State Fault Refusal → Option State
  | .next t => some t
  | .fault _ => none
  | .refused _ => none

/-- The state after the block takes this command word. -/
def stepWith (w : Word) (s : State) : Option State := after (step (presentWord w s))

/-- The word the block answers, and the MODE after. -/
def answer (w : Word) (s : State) : Option (List Word × Mode) := (stepWith w s).map (fun t => (t.responses, t.mode))

def idleState : State := State.reset
def genState : State := { State.reset with mode := .gen }
def gentState : State := { State.reset with mode := .gent, crc := 0x1790 }
def chkState : State := { State.reset with mode := .chk }

/-- The state of the running example of 44_readout.md, after the document's Read Coils request was verified. -/
def verified : State :=
  { State.reset with
    crc := 0xCC3D, h0 := 0xCC, h1 := 0x3D, cnt := 8, addr := 0x01, fcb := 0x01, b2 := 0x00, ftype := .request, plen := 4 }

/-- The same request after its eight bytes and before VEND (43_verify.md section 2). -/
def received : State :=
  { State.reset with crc := 0xCC3D, h0 := 0xCC, h1 := 0x3D, cnt := 8, mode := .chk, addr := 0x01, fcb := 0x01 }

theorem test_nop : answer 0x0000 genState = some ([0x0000], .gen) := by decide
theorem test_clr :
    (stepWith 0x0100 { received with eSeq := true }).map (fun t => (t.responses, t.mode, t.cnt, t.addr, t.crc, t.eSeq)) =
      some ([0x0000], .idle, 0, 0x00, 0xFFFF, true) := by decide
theorem test_gbeg : (stepWith 0x1000 verified).map (fun t => (t.responses, t.mode, t.crc, t.addr, t.plen)) =
    some ([0x0000], .gen, 0xFFFF, 0x01, 4) := by decide
theorem test_gbyte : (stepWith 0x1101 genState).map (fun t => (t.responses, t.mode, t.crc)) =
    some ([0x0101], .gen, 0x807E) := by decide
theorem test_gbyte_refused : (stepWith 0x115A gentState).map (fun t => (t.responses, t.mode, t.crc, t.eSeq)) =
    some ([0x0F02], .gent, 0x1790, true) := by decide
theorem test_gexc : (stepWith 0x120F { genState with crc := 0x807E }).map (fun t => (t.responses, t.mode, t.crc)) =
    some ([0x018F], .gen, 0x8441) := by decide
theorem test_gexc_refused : answer 0x125A chkState = some ([0x0F02], .chk) := by decide
theorem test_gcrl : (stepWith 0x1300 { genState with crc := 0x1790 }).map (fun t => (t.responses, t.mode, t.crc)) =
    some ([0x0190], .gent, 0x1790) := by decide
theorem test_gcrl_refused : answer 0x1300 gentState = some ([0x0F02], .gent) := by decide
theorem test_gcrh : (stepWith 0x1400 gentState).map (fun t => (t.responses, t.mode, t.crc)) =
    some ([0x0117], .idle, 0x1790) := by decide
theorem test_gcrh_refused : answer 0x1400 genState = some ([0x0F02], .gen) := by decide
theorem test_vbeg : (stepWith 0x2000 { verified with eIll := true }).map (fun t => (t.responses, t.mode, t.cnt, t.ftype, t.crc, t.eIll)) =
    some ([0x0000], .chk, 0, .none, 0xFFFF, true) := by decide
/-- The third row of the table of 43_verify.md section 2: byte 2 absorbs byte 0 and is captured in B2. -/
theorem test_vbyte_absorbs :
    (stepWith 0x2100 { chkState with h0 := 0x01, h1 := 0x01, cnt := 2, addr := 0x01, fcb := 0x01, b2 := 0x77 }).map
        (fun t => (t.responses, t.crc, t.h1, t.h0, t.cnt, t.b2)) =
      some ([0x0000], 0x807E, 0x01, 0x00, 3, 0x00) := by decide
/-- At 257 bytes CNT stays where it is, and the byte two places old is still handed out (R13, R141). -/
theorem test_vbyte_saturates :
    (stepWith 0x2155 { chkState with h0 := 0xAA, h1 := 0xBB, cnt := 257 }).map (fun t => (t.responses, t.h1, t.h0, t.cnt)) =
      some ([0x02BB], 0xAA, 0x55, 257) := by decide
theorem test_vend_ok : (stepWith 0x2200 received).map (fun t => (t.responses, t.mode, t.ftype, t.plen, statusByte t)) =
    some ([0x0301], .idle, .request, 4, 0x00) := by decide
/-- The document's forged CRC bytes 00 00 in place of 3D CC (43_verify.md section 3). -/
theorem test_vend_badcrc :
    (stepWith 0x2200 { received with h0 := 0x00, h1 := 0x00 }).map (fun t => (t.responses, t.mode, t.ftype, t.plen, statusByte t)) =
      some ([0x0304], .idle, .none, 4, 0x04) := by decide
theorem test_rdst : answer 0x3000 { verified with fAddr := true, fCrc := true } = some ([0x040C], .idle) := by decide
theorem test_rdst_modes : answer 0x3000 chkState = some ([0x04C0], .chk) ∧ answer 0x3000 gentState = some ([0x0480], .gent) ∧
    answer 0x3000 { genState with eSeq := true } = some ([0x0460], .gen) := by decide
theorem test_rdaddr : answer 0x3100 verified = some ([0x0401], .idle) := by decide
theorem test_rdfc : answer 0x3200 { verified with fcb := 0x8F } = some ([0x040F], .idle) := by decide
theorem test_rdexc : answer 0x3300 { verified with b2 := 0xC0 } = some ([0x04C0], .idle) := by decide
theorem test_rdtyp : answer 0x3400 verified = some ([0x0401], .idle) := by decide
theorem test_rdtyp_exception : answer 0x3400 { verified with ftype := .exception } = some ([0x0403], .idle) := by decide
theorem test_rdlen : answer 0x3500 verified = some ([0x0404], .idle) := by decide
theorem test_rdcrl : answer 0x3600 verified = some ([0x043D], .idle) := by decide
theorem test_rdcrh : answer 0x3700 verified = some ([0x04CC], .idle) := by decide
/-- ILL before SEQ (R208): VEND's opcode with a data byte, in IDLE. -/
theorem test_illegal : (stepWith 0x2201 idleState).map (fun t => (t.responses, t.eIll, t.eSeq, statusByte t)) =
    some ([0x0F01], true, false, 0x10) := by decide
/-- A reset pulse in the middle of a frame gives no response word (R230). -/
theorem test_reset : after (step { received with eSeq := true, inputs := [.reset] }) = some State.reset := by decide
theorem test_withFetchWord : (after (step (genState.withFetchWord 16 0x1101))).map (fun t => (t.responses, t.crc)) =
    some ([0x0101], 0x807E) := by decide
/-- The assembler line of R72, with the 0x sign, a comment, and without. -/
theorem test_assembleLine :
    assembleLine ['G', 'B', 'Y', 'T', 'E', ' ', '0', 'x', '3', 'D', ' ', ';', 'c'] = .ok (some (.gbyte 0x3D)) ∧
    assembleLine ['G', 'B', 'Y', 'T', 'E', ' ', '3', 'D'] = .ok (some (.gbyte 0x3D)) ∧
    assembleLine ['V', 'E', 'N', 'D', ' ', '0', '1'] = .error .extraOperand ∧
    assembleLine ['V', 'B', 'Y', 'T', 'E'] = .error .missingOperand ∧
    assembleLine ['X'] = .error .unknownMnemonic := by decide

/-! ## A state and operands for the hypotheses of each statement -/

/-- A state with this command word next at the command port. -/
def facing (w : Word) (s : State) : State := presentWord w s

theorem witness_DecodeEncodeEveryCommand : Instr.wellFormed .vend = true ∧ Instr.wellFormed (.gbyte 0xFF) = true := by decide
theorem witness_EncodeDecodeEveryWord : decode 0x21CC = .ok (.vbyte 0xCC) := by decide
theorem witness_OpcodeMapSelectsTheCommand :
    (0x0000 : Word) &&& 0xFFFF = 0x0000 ∧ (0x0100 : Word) &&& 0xFFFF = 0x0100 ∧ (0x1000 : Word) &&& 0xFFFF = 0x1000 ∧
    (0x11FF : Word) &&& 0xFF00 = 0x1100 ∧ (0x1200 : Word) &&& 0xFF00 = 0x1200 ∧ (0x1300 : Word) &&& 0xFFFF = 0x1300 ∧
    (0x1400 : Word) &&& 0xFFFF = 0x1400 ∧ (0x2000 : Word) &&& 0xFFFF = 0x2000 ∧ (0x2180 : Word) &&& 0xFF00 = 0x2100 ∧
    (0x2200 : Word) &&& 0xFFFF = 0x2200 ∧ (0x3000 : Word) &&& 0xFFFF = 0x3000 ∧ (0x3100 : Word) &&& 0xFFFF = 0x3100 ∧
    (0x3200 : Word) &&& 0xFFFF = 0x3200 ∧ (0x3300 : Word) &&& 0xFFFF = 0x3300 ∧ (0x3400 : Word) &&& 0xFFFF = 0x3400 ∧
    (0x3500 : Word) &&& 0xFFFF = 0x3500 ∧ (0x3600 : Word) &&& 0xFFFF = 0x3600 ∧ (0x3700 : Word) &&& 0xFFFF = 0x3700 := by decide
theorem witness_StepRunsTheDecodedCommand :
    (facing 0x118F genState).inputs = [.command 0x118F] ∧ decode 0x118F = .ok (.gbyte 0x8F) := by decide
theorem witness_IdleBlockKeepsItsState : verified.inputs = [] := by decide

/-- The two numbers R64 looks at, the opcode byte and the data byte. -/
def bytesOf (w : Word) : Nat × Nat := (w.toNat / 256, w.toNat % 256)

/-- Boundary words of every range of R64, and legal words on the other side of each. -/
theorem witness_IllegalWordRaisesIll :
    (facing 0x0200 chkState).inputs = [.command 0x0200] ∧ bytesOf 0x0200 = (0x02, 0) ∧ bytesOf 0x0FFF = (0x0F, 0xFF) ∧
    bytesOf 0x1500 = (0x15, 0) ∧ bytesOf 0x1F00 = (0x1F, 0) ∧ bytesOf 0x2300 = (0x23, 0) ∧ bytesOf 0x2F00 = (0x2F, 0) ∧
    bytesOf 0x3800 = (0x38, 0) ∧ bytesOf 0xFFFF = (0xFF, 0xFF) ∧ bytesOf 0x0001 = (0x00, 1) ∧ bytesOf 0x37FF = (0x37, 0xFF) ∧
    bytesOf 0x0100 = (0x01, 0) ∧ bytesOf 0x11FF = (0x11, 0xFF) ∧ bytesOf 0x2101 = (0x21, 1) ∧ bytesOf 0x3700 = (0x37, 0) := by decide
theorem witness_CommandInTheWrongModeRaisesSeq :
    idleState.mode ≠ .gen ∧ genState.mode ≠ .gent ∧ gentState.mode ≠ .chk ∧
    genState.mode = .gen ∧ gentState.mode = .gent ∧ chkState.mode = .chk := by decide
theorem witness_StepEndsInExactlyOneOfThreeWays :
    (facing 0x2201 idleState).inputs = [.command 0x2201] ∧ decode 0x2201 = .error .nonzeroOperand ∧
    decode 0x2200 = .ok .vend ∧ requiredMode .vend = some .chk ∧ idleState.mode ≠ .chk ∧
    requiredMode .vend = some chkState.mode ∧ decode 0x0000 = .ok .nop ∧ requiredMode .nop = none := by decide
/-- One word of each kind: ACK, WIRE, PAY, VERD, VAL, ERR. -/
theorem witness_OneLegalResponsePerCommandWord :
    (facing 0x0000 idleState).inputs = [.command 0x0000] ∧
    answer 0x0000 idleState = some ([0x0000], .idle) ∧ answer 0x1101 genState = some ([0x0101], .gen) ∧
    answer 0x2100 { chkState with cnt := 4, h1 := 0x0A } = some ([0x020A], .chk) ∧ answer 0x2200 chkState = some ([0x0302], .idle) ∧
    answer 0x3600 idleState = some ([0x04FF], .idle) ∧ answer 0x2200 idleState = some ([0x0F02], .idle) := by decide
theorem witness_ModeMachineTransitions :
    ({ genState with inputs := [.reset] } : State).inputs = [.reset] ∧
    after (step { genState with inputs := [.reset] }) = some State.reset ∧
    (facing 0x1500 genState).inputs = [.command 0x1500] ∧ decode 0x1500 = .error .unassignedOpcode ∧
    (stepWith 0x1500 genState).isSome = true := by decide
theorem witness_ResetPulseRestoresEveryRegister :
    ({ received with eIll := true, inputs := [.reset] } : State).inputs = [.reset] ∧
    (after (step { received with eIll := true, inputs := [.reset] })).map (fun t => t.eIll) = some false := by decide
theorem witness_StationAddressNeverChanges :
    after (Host.Core.run Sys2Proof.core 1 { genState with inputs := [.reset] }) = some State.reset := by decide
theorem witness_GbyteAbsorbsAndEchoes : genState.mode = .gen ∧ chkState.mode ≠ .gen := by decide
theorem witness_GexcMarksAbsorbsAndEchoes :
    genState.mode = .gen ∧ idleState.mode ≠ .gen ∧ (0x80 : Byte).getLsbD 7 = true := by decide
theorem witness_GcrlPutsOutTheLowByte : genState.mode = .gen ∧ gentState.mode ≠ .gen := by decide
theorem witness_GcrhPutsOutTheHighByte : gentState.mode = .gent ∧ genState.mode ≠ .gent := by decide
theorem witness_VbegClearsAndStartsChecking :
    verified.myAddr = genState.myAddr ∧ verified.inputs = genState.inputs ∧ verified ≠ genState := by decide
theorem witness_VbyteTakesOneByte : received.mode = .chk ∧ genState.mode ≠ .chk := by decide
/-- Frames of no byte, of 1, 3, 4, 256 and more than 256 bytes, and the four flags of each. -/
theorem witness_VendJudgesTheFrame :
    received.mode = .chk ∧ genState.mode ≠ .chk ∧
    [0, 1, 3, 4, 256, 257].map (fun n => (flagShort n, flagLong n)) =
      [(true, false), (true, false), (true, false), (false, false), (false, false), (false, true)] ∧
    flagCrc 1 0xFFFF 0xFFFF = true ∧ flagCrc 2 0xFFFF 0xFFFF = false ∧ flagCrc 2 0xFFFF 0x0000 = true ∧
    flagAddr 0 0x01 0x01 = true ∧ flagAddr 1 0x01 0x01 = false ∧ flagAddr 1 0x00 0x00 = true ∧ flagAddr 1 0x02 0x01 = true := by
  decide
theorem witness_StickyErrorFlags :
    (facing 0x2200 idleState).inputs = [.command 0x2200] ∧ requiredMode .vend = some .chk ∧ idleState.mode ≠ .chk ∧
    idleState.inputs = [] ∧ after (step idleState) = some idleState ∧
    ({ verified with inputs := [.reset] } : State).inputs = [.reset] ∧
    (after (step { verified with inputs := [.reset] })).isSome = true ∧ (after (exec .vend chkState)).isSome = true := by decide
theorem witness_ResultFlagsWrittenTogether :
    (after (exec .vend received)).isSome = true ∧ received.mode = .chk ∧ (after (exec .vbeg verified)).isSome = true ∧
    (after (exec .clr verified)).isSome = true ∧ (after (exec .gbeg verified)).isSome = true ∧
    (after (step { verified with inputs := [.reset] })).isSome = true := by decide
theorem witness_FrameTypeWriters :
    (after (exec .vend { received with fcb := 0x81 })).map (fun t => t.responses) = some [0x0301] ∧
    (0x81 : Byte).getLsbD 7 = true ∧ (after (exec .vend received)).map (fun t => t.responses) = some [0x0301] ∧
    received.fcb.getLsbD 7 = false ∧ (after (exec .vend chkState)).map (fun t => t.responses) = some [0x0302] ∧
    (after (exec .vbeg verified)).isSome = true ∧ (after (exec .gbeg verified)).isSome = true ∧ verified.ftype ≠ .response ∧
    (after (step { verified with inputs := [.reset] })).isSome = true := by decide
/-- The five cases at the ends of their ranges: lengths 4 and 256 accepted; 3; 257; a wrong CRC; address 0 and another station's. -/
theorem witness_VerdictsAndWhatTheyRecord :
    [4, 256].map (fun n => answer 0x2200 { received with cnt := n }) = [some ([0x0301], .idle), some ([0x0301], .idle)] ∧
    [0, 3].map (fun n => answer 0x2200 { received with cnt := n }) = [some ([0x0302], .idle), some ([0x0302], .idle)] ∧
    answer 0x2200 { received with cnt := 257 } = some ([0x0303], .idle) ∧
    [4, 256].map (fun n => answer 0x2200 { received with cnt := n, crc := 0x0000 }) =
      [some ([0x0304], .idle), some ([0x0304], .idle)] ∧
    [0x00, 0x02].map (fun a => answer 0x2200 { received with addr := a }) = [some ([0x0305], .idle), some ([0x0305], .idle)] := by
  decide
theorem witness_AddressZeroAcceptsNothing :
    (facing 0x2200 { received with addr := 0x00, myAddr := 0x00 }).myAddr = 0x00 ∧
    (after (Host.Core.run Sys2Proof.core 1 (facing 0x2200 { received with addr := 0x00, myAddr := 0x00 }))).map
      (fun t => t.responses) = some [0x0305] := by decide
theorem witness_OnlyListedCommandsWriteARegister :
    (after (exec (.vbyte 0x08) received)).map (fun t => (t.crc == received.crc, t.cnt == received.cnt)) = some (false, false) ∧
    (after (exec .vend received)).map (fun t => (t.mode == received.mode, t.ftype == received.ftype)) = some (false, false) ∧
    (after (exec .vend idleState)).map (fun t => t.eSeq == idleState.eSeq) = some false := by decide
theorem witness_GenerateCommandsUseOnlyCrcAndMode :
    isGenerate (.gbyte 0x01) = true ∧ verified.crc = ({ genState with crc := 0xCC3D, mode := .idle } : State).crc ∧
    verified.mode = ({ genState with crc := 0xCC3D, mode := .idle } : State).mode := by decide
theorem witness_ReadsChangeNothing :
    isRead .rdst = true ∧ isRead .rdcrh = true ∧ (0x01 : Byte) ≠ 0x00 ∧
    (facing (encode .rdcrh ||| (0x01 : Byte).setWidth 16) verified).inputs =
      [.command (encode .rdcrh ||| (0x01 : Byte).setWidth 16)] := by decide
/-- A state in the middle of a verify frame that has the invariant, with a command before it. -/
theorem witness_StepKeepsTheRegisterInvariant :
    Inv { chkState with inputs := [.command 0x2101] } ∧
      (after (step { chkState with inputs := [.command 0x2101] })).isSome = true := by
  refine ⟨?_, by decide⟩
  constructor <;> simp [chkState, State.reset]
theorem witness_CrcDetectsOneChangedByte : (0x00 : Byte) ≠ 0x01 := by decide
theorem witness_GenerateSequencePutsOutTheFrame :
    effective [.gbeg, .nop, .gbyte 0x01, .rdst, .gexc 0x0F, .gcrl, .rdcrl, .gcrh] =
      [.gbeg] ++ [(false, 0x01), (true, 0x0F)].map (fun p => if p.1 then .gexc p.2 else .gbyte p.2) ++ [.gcrl, .gcrh] := by decide
/-- Frames of 0, 1, 2 and 3 bytes, with a read and a NOP between. -/
theorem witness_VerifierRegistersTrackTheFrame :
    effective [.vbeg] = .vbeg :: [].map .vbyte ∧ effective [.nop, .vbeg, .vbyte 0x01] = .vbeg :: [0x01].map .vbyte ∧
    effective [.vbeg, .vbyte 0x01, .rdst, .vbyte 0x7E] = .vbeg :: [0x01, 0x7E].map .vbyte ∧
    effective [.vbeg, .vbyte 0x01, .vbyte 0x7E, .vbyte 0x80] = .vbeg :: [0x01, 0x7E, 0x80].map .vbyte := by decide
theorem witness_VerifySequenceMatchesRtuDecode :
    effective [.vbeg, .vbyte 0x01, .nop, .vbyte 0x7E, .rdaddr, .vbyte 0x80] = .vbeg :: [0x01, 0x7E, 0x80].map .vbyte := by decide
/-- A body of 252 bytes for this station and for others, and one of 253. -/
theorem witness_DecodeOfEncodeRoundTrip :
    (FrameSpec.mk 0x01 false 0x03 (List.replicate 252 0x00)).body.length ≤ 252 ∧
    (FrameSpec.mk 0x01 false 0x03 (List.replicate 252 0x00)).addr = 0x01 ∧ (0x01 : Byte) ≠ 0x00 ∧
    (FrameSpec.mk 0x02 true 0x03 [0x01]).addr ≠ 0x01 ∧ (FrameSpec.mk 0x00 false 0x03 []).addr = 0x00 ∧
    (FrameSpec.mk 0x01 false 0x03 (List.replicate 253 0x00)).body.length > 252 := by decide +kernel
theorem witness_CrcFlagIsTheResidueTest :
    [(0xFF : Byte), 0xFF].length ≥ 2 ∧ [(0x01 : Byte)].length < 2 ∧ crc16 [0xFF, 0xFF] = 0x0000 := by decide +kernel
theorem witness_FrameOutcomeIndependentOfHistory :
    verified.myAddr = genState.myAddr ∧ verified ≠ genState ∧ Instr.rdst ∉ [.vbyte 0x01, .vend, .rdaddr] := by decide
theorem witness_ResultsSurviveGeneration :
    ∀ i ∈ [Instr.gbeg, .gbyte 0x01, .rdlen, .gcrl, .nop, .gcrh], isGenerate i = true ∨ isTransparent i = true := by decide
theorem witness_GeneratedFrameIsAccepted :
    (0x11 : Byte) ≠ 0x00 ∧ ({ verified with myAddr := 0x11 } : State).myAddr = 0x11 ∧
    (List.replicate 252 (0xAA : Byte)).length ≤ 252 := by decide +kernel

end Sys2Proof.Tests
end

