-- ==== Sys2Proof/Proofs/State.lean ====
section
/-! PROOFS. The statements on the state of the block (10_state.md), and before them the facts they rest on: which words decode, that
every command answers, what a command does to the parameter, to the sticky flags and to the results, and what it reads of the flags. -/

namespace Sys2Proof.Machine

/-! ### Which words decode (R62 to R64) -/

/-- Every row of the map compares the whole word, with data byte 0x00, or is a row of a command with an operand and compares the
opcode alone. -/
theorem opcodeTable_row_shape : ∀ r ∈ opcodeTable, lo r.matchWord = 0x00 ∧
    (r.mask = 0xFFFF ∧ opcodeTakesOperand (hi r.matchWord) = false ∨
      r.mask = 0xFF00 ∧ opcodeTakesOperand (hi r.matchWord) = true) := by
  decide

/-- The opcodes of the map are the ones that R64 (a) does not list. -/
theorem opcode_in_map_iff : ∀ op : Byte, (∃ r ∈ opcodeTable, hi r.matchWord = op) ↔ opcodeUnassigned op = false := by
  decide

theorem word_eq_iff {v w : Word} : v = w ↔ hi v = hi w ∧ lo v = lo w := by
  constructor
  · rintro rfl
    exact ⟨rfl, rfl⟩
  · rintro ⟨hhi, hlo⟩
    rw [← hi_append_lo v, ← hi_append_lo w, hhi, hlo]

/-- A row is selected by its opcode byte and, where the command takes no operand, the data byte 0x00 (R62). -/
theorem selects_iff {r : OpRow} (hr : r ∈ opcodeTable) (w : Word) :
    r.selects w = true ↔ hi r.matchWord = hi w ∧ wordOperandAllowed w = true := by
  have hallowed : wordOperandAllowed w = true ↔ opcodeTakesOperand (hi w) = true ∨ lo w = 0x00 := by
    simp [wordOperandAllowed, hi, lo]
  obtain ⟨hlo, ⟨hmask, htakes⟩ | ⟨hmask, htakes⟩⟩ := opcodeTable_row_shape r hr
  · have hsel : r.selects w = true ↔ w = r.matchWord := by
      rw [OpRow.selects, hmask, Laws.selects_full, beq_iff_eq]
    rw [hsel, hallowed, word_eq_iff, hlo]
    constructor
    · rintro ⟨hop, hdata⟩
      exact ⟨hop.symm, .inr hdata⟩
    · rintro ⟨hop, hdata⟩
      rw [← hop, htakes] at hdata
      exact ⟨hop.symm, by simpa using hdata⟩
  · have hsel : r.selects w = true ↔ hi w ++ 0x00#8 = r.matchWord := by
      rw [OpRow.selects, hmask, beq_iff_eq, ← Laws.selects_opcode (hi w) (lo w), hi_append_lo]
      rfl
    rw [hsel, hallowed, word_eq_iff, hi_append, lo_append, hlo]
    constructor
    · rintro ⟨hop, -⟩
      exact ⟨hop.symm, .inl (hop ▸ htakes)⟩
    · rintro ⟨hop, -⟩
      exact ⟨hop.symm, rfl⟩

theorem decode_ok_iff_selects (w : Word) : (∃ i, decode w = .ok i) ↔ ∃ r ∈ opcodeTable, r.selects w = true := by
  rw [← List.find?_isSome (p := fun r : OpRow => r.selects w)]
  unfold decode
  cases opcodeTable.find? (fun r => r.selects w) with
  | some r => simp
  | none =>
    dsimp only
    split <;> simp

/-- A word decodes exactly when it is illegal in neither way of R64. -/
theorem decode_ok_iff_wellFormed (w : Word) : (∃ i, decode w = .ok i) ↔ wordWellFormed w = true := by
  have hassigned : wordOpcodeAssigned w = true ↔ ∃ r ∈ opcodeTable, hi r.matchWord = hi w := by
    rw [opcode_in_map_iff, wordOpcodeAssigned, Bool.not_eq_true']
    rfl
  rw [decode_ok_iff_selects, wordWellFormed, Bool.and_eq_true, hassigned]
  constructor
  · rintro ⟨r, hr, hsel⟩
    obtain ⟨hop, hdata⟩ := (selects_iff hr w).1 hsel
    exact ⟨⟨r, hr, hop⟩, hdata⟩
  · rintro ⟨⟨r, hr, hop⟩, hdata⟩
    exact ⟨r, hr, (selects_iff hr w).2 ⟨hop, hdata⟩⟩

theorem wellFormed_of_decode_ok {w : Word} {i : Instr} (h : decode w = .ok i) : wordWellFormed w = true :=
  (decode_ok_iff_wellFormed w).1 ⟨i, h⟩

theorem not_wellFormed_of_decode_error {w : Word} {e : IllegalWord} (h : decode w = .error e) : wordWellFormed w = false := by
  rw [Bool.eq_false_iff, ne_eq, ← decode_ok_iff_wellFormed]
  rintro ⟨i, hok⟩
  rw [h] at hok
  exact nomatch hok

/-! ### What every command does -/

/-- A command always has a next state (R216). -/
theorem exec_total (i : Instr) (s : State) : ∃ t, exec i s = .next t := by
  rcases mode_refuses_or_not i s with ⟨m, hr, hm⟩ | hr
  · exact ⟨_, exec_of_mode_ne hr hm⟩
  · exact ⟨_, exec_of_mode_eq hr⟩

theorem exec_myAddr {i : Instr} {s t : State} (h : exec i s = .next t) : t.myAddr = s.myAddr := by
  rcases exec_cases h with ⟨m, -, -, rfl⟩ | ⟨-, rfl⟩ <;> simp

theorem exec_eIll {i : Instr} {s t : State} (h : exec i s = .next t) : t.eIll = s.eIll := by
  rcases exec_cases h with ⟨m, -, -, rfl⟩ | ⟨-, rfl⟩
  · rw [raiseErr_seq]
  · simp

/-- A command sets E_SEQ exactly when it is refused for its mode (R203). -/
theorem exec_eSeq_iff {i : Instr} {s t : State} (h : exec i s = .next t) :
    t.eSeq = true ↔ s.eSeq = true ∨ ∃ m, requiredMode i = some m ∧ s.mode ≠ m := by
  rcases exec_cases h with ⟨m, hr, hm, rfl⟩ | ⟨hr, rfl⟩
  · rw [raiseErr_seq]
    exact ⟨fun _ => .inr ⟨m, hr, hm⟩, fun _ => rfl⟩
  · have hnone : ¬ ∃ m, requiredMode i = some m ∧ s.mode ≠ m := by
      rintro ⟨m, hm, hne⟩
      rcases hr with hr | hr <;> rw [hm] at hr <;> cases hr
      exact hne rfl
    simp only [respond_eSeq, commandEffect_eSeq, hnone, or_false]

/-! ### Runs -/

/-- What every step keeps, every run keeps. -/
theorem run_keeps {P : State → Prop} (hstep : ∀ s t, P s → step s = .next t → P t) (n : Nat) {s t : State} (hs : P s)
    (h : Host.Core.run Sys2Proof.core n s = .next t) : P t := by
  induction n generalizing s with
  | zero =>
    cases h
    exact hs
  | succ n ih =>
    simp only [Host.Core.run] at h
    split at h
    · next u hu => exact ih (hstep s u hs hu) h
    · exact nomatch h
    · exact nomatch h

theorem step_myAddr {s t : State} (h : step s = .next t) : t.myAddr = s.myAddr := by
  rcases step_cases h with ⟨-, rfl⟩ | ⟨rest, -, rfl⟩ | ⟨w, rest, e, -, -, rfl⟩ | ⟨w, rest, i, -, -, hexec⟩
  · rfl
  · simp
  · simp
  · exact exec_myAddr (s := { s with inputs := rest }) hexec

/-- Settles O19: no step writes MYADDR, so no run does. -/
theorem stationAddressNeverChanges : Obligations.StationAddressNeverChanges := by
  intro n s t h
  exact run_keeps (P := fun u => u.myAddr = s.myAddr) (fun u v hu hv => (step_myAddr hv).trans hu) n rfl h

/-! ### The sticky flags (R21) -/

/-- The state with other sticky flags. -/
def withSticky (ill seq : Bool) (s : State) : State := { s with eIll := ill, eSeq := seq }

@[simp] theorem withSticky_mode (a b : Bool) (s : State) : (withSticky a b s).mode = s.mode := rfl

/-- No command's effect reads a sticky flag. -/
theorem commandEffect_withSticky (a b : Bool) (i : Instr) (s : State) :
    commandEffect i (withSticky a b s) = withSticky a b (commandEffect i s) := by
  cases i <;> rfl

/-- No command's answer but RDST's reads a sticky flag. -/
theorem commandAnswer_withSticky {i : Instr} (hrdst : i ≠ .rdst) (a b : Bool) (s : State) :
    commandAnswer i (withSticky a b s) = commandAnswer i s := by
  cases i
  case rdst => exact absurd rfl hrdst
  all_goals rfl

/-- A command does the same whatever the sticky flags are, and only RDST answers differently. -/
theorem exec_withSticky {i : Instr} {s t : State} (h : exec i s = .next t) (a b : Bool) :
    ∃ u, exec i (withSticky a b s) = .next u ∧
      { u with eIll := t.eIll, eSeq := t.eSeq, responses := t.responses } = t ∧ (i ≠ .rdst → u.responses = t.responses) := by
  rcases exec_cases h with ⟨m, hr, hm, rfl⟩ | ⟨hr, rfl⟩
  · exact ⟨_, exec_of_mode_ne hr hm, rfl, fun _ => rfl⟩
  · refine ⟨_, exec_of_mode_eq hr, ?_, fun hrdst => ?_⟩
    · rw [commandEffect_withSticky]
      rfl
    · rw [commandEffect_withSticky, commandAnswer_withSticky hrdst]
      rfl

/-- What a command word does to the sticky flags: an illegal one sets E_ILL, one refused for its mode sets E_SEQ (R202, R203). -/
theorem step_command_sticky {s : State} {w : Word} {rest : List PortEvent} (h : s.inputs = .command w :: rest) :
    ∃ t, step s = .next t ∧ t.eIll = (s.eIll || !wordWellFormed w) ∧
      (t.eSeq = true ↔ s.eSeq = true ∨ ∃ i m, decode w = .ok i ∧ requiredMode i = some m ∧ s.mode ≠ m) := by
  cases hd : decode w with
  | error e =>
    refine ⟨_, step_illegal h hd, ?_, ?_⟩
    · simp [raiseErr_ill, not_wellFormed_of_decode_error hd]
    · simp [raiseErr_ill]
  | ok i =>
    obtain ⟨t, ht⟩ := exec_total i { s with inputs := rest }
    refine ⟨t, (step_command h hd).trans ht, ?_, ?_⟩
    · rw [exec_eIll ht, wellFormed_of_decode_ok hd]
      simp
    · rw [exec_eSeq_iff ht]
      simp

/-- Settles O31, by the three things that can stand at the ports, and by the independence of a command from the sticky flags. -/
theorem stickyErrorFlags : Obligations.StickyErrorFlags := by
  refine ⟨fun s w rest h => step_command_sticky h, ?_, ?_, fun s t a b i h => exec_withSticky h a b⟩
  · intro s t hin h
    cases (step_idle hin).symm.trans h
    exact ⟨rfl, rfl⟩
  · intro s t rest hin h
    cases (step_reset hin).symm.trans h
    exact ⟨rfl, rfl⟩

/-! ### The results: FTYPE and the four result flags (R18, R20) -/

/-- FTYPE is NONE and no result flag is set: what VBEG, CLR and reset leave. -/
def NoResult (s : State) : Prop :=
  s.ftype = .none ∧ s.fShort = false ∧ s.fLong = false ∧ s.fCrc = false ∧ s.fAddr = false

/-- FTYPE and the result flags are the same in both states. -/
def SameResult (s t : State) : Prop :=
  t.ftype = s.ftype ∧ t.fShort = s.fShort ∧ t.fLong = s.fLong ∧ t.fCrc = s.fCrc ∧ t.fAddr = s.fAddr

theorem noResult_of_reset {s t : State} {rest : List PortEvent} (hin : s.inputs = .reset :: rest) (h : step s = .next t) :
    NoResult t := by
  cases (step_reset hin).symm.trans h
  exact ⟨rfl, rfl, rfl, rfl, rfl⟩

theorem noResult_of_exec {i : Instr} {s t : State} (hclear : i = .vbeg ∨ i = .clr) (h : exec i s = .next t) : NoResult t := by
  rcases hclear with rfl | rfl <;> cases h <;> exact ⟨rfl, rfl, rfl, rfl, rfl⟩

theorem commandEffect_sameResult {i : Instr} (hvbeg : i ≠ .vbeg) (hclr : i ≠ .clr) (hvend : i ≠ .vend) (s : State) :
    SameResult s (commandEffect i s) := by
  cases i
  case vbeg => exact absurd rfl hvbeg
  case clr => exact absurd rfl hclr
  case vend => exact absurd rfl hvend
  all_goals exact ⟨rfl, rfl, rfl, rfl, rfl⟩

/-- Only VBEG, CLR and a VEND that is not refused write the results. -/
theorem exec_sameResult {i : Instr} {s t : State} (h : exec i s = .next t) (hvbeg : i ≠ .vbeg) (hclr : i ≠ .clr)
    (hvend : ¬ (i = .vend ∧ s.mode = .chk)) : SameResult s t := by
  rcases exec_cases h with ⟨m, -, -, rfl⟩ | ⟨hr, rfl⟩
  · exact ⟨rfl, rfl, rfl, rfl, rfl⟩
  · refine commandEffect_sameResult hvbeg hclr ?_ s
    rintro rfl
    rcases hr with hr | hr
    · exact nomatch hr
    · exact hvend ⟨rfl, (Option.some.inj hr).symm⟩

/-- VEND in CHK judges the frame (R142). -/
theorem exec_vend_chk {s : State} (hm : s.mode = .chk) :
    exec .vend s = .next (respond (.verd (frameVerdict s)) (setMode .idle (recordVerdict s))) :=
  exec_of_mode_eq (i := .vend) (.inr (congrArg some hm.symm))

/-- The word VEND answers says the first flag set (R66, R143). -/
theorem responseWord_verdict (fs fl fc fa : Bool) :
    responseWord (.verd (verdict fs fl fc fa)) =
      if fs then 0x0302 else if fl then 0x0303 else if fc then 0x0304 else if fa then 0x0305 else 0x0301 := by
  revert fs fl fc fa
  decide

/-- The flags and the word VEND gives in CHK (R20, R142, R143). -/
theorem exec_vend_flags {s t : State} (hm : s.mode = .chk) (h : exec .vend s = .next t) :
    (t.fShort = true ↔ s.cnt.toNat < 4) ∧ (t.fLong = true ↔ s.cnt.toNat > 256) ∧
    (t.fCrc = true ↔ s.cnt.toNat < 2 ∨ s.crc ≠ s.h0 ++ s.h1) ∧
    (t.fAddr = true ↔ s.cnt.toNat < 1 ∨ s.addr ≠ s.myAddr ∨ s.addr = 0x00) ∧
    t.responses = s.responses ++
      [if t.fShort then 0x0302 else if t.fLong then 0x0303 else if t.fCrc then 0x0304 else if t.fAddr then 0x0305 else 0x0301] := by
  cases (exec_vend_chk hm).symm.trans h
  refine ⟨flagShort_iff _, flagLong_iff _, flagCrc_iff _ _ _, flagAddr_iff _ _ _, ?_⟩
  rw [respond_responses, frameVerdict, responseWord_verdict]
  rfl

/-- The state with other result flags. -/
def withResultFlags (a b c d : Bool) (s : State) : State := { s with fShort := a, fLong := b, fCrc := c, fAddr := d }

/-- `t` with the result flags of `r`. -/
def takeResultFlags (r t : State) : State := withResultFlags r.fShort r.fLong r.fCrc r.fAddr t

/-- No command's effect on the other registers reads a result flag. -/
theorem commandEffect_withResultFlags (a b c d : Bool) (i : Instr) (s : State) :
    takeResultFlags (commandEffect i s) (commandEffect i (withResultFlags a b c d s)) = commandEffect i s := by
  cases i <;> rfl

/-- No command's answer but RDST's reads a result flag. -/
theorem commandAnswer_withResultFlags {i : Instr} (hrdst : i ≠ .rdst) (a b c d : Bool) (s : State) :
    commandAnswer i (withResultFlags a b c d s) = commandAnswer i s := by
  cases i
  case rdst => exact absurd rfl hrdst
  all_goals rfl

/-- A command other than RDST does the same whatever the result flags are. -/
theorem exec_withResultFlags {i : Instr} {s t : State} (h : exec i s = .next t) (hrdst : i ≠ .rdst) (a b c d : Bool) :
    ∃ u, exec i (withResultFlags a b c d s) = .next u ∧ takeResultFlags t u = t := by
  rcases exec_cases h with ⟨m, hr, hm, rfl⟩ | ⟨hr, rfl⟩
  · exact ⟨_, exec_of_mode_ne hr hm, rfl⟩
  · refine ⟨_, exec_of_mode_eq hr, ?_⟩
    rw [commandAnswer_withResultFlags hrdst]
    exact congrArg (respond (commandAnswer i s)) (commandEffect_withResultFlags a b c d i s)

/-- Settles O32, from what VEND, VBEG and CLR, every other command, and reset do to the results. -/
theorem resultFlagsWrittenTogether : Obligations.ResultFlagsWrittenTogether := by
  refine ⟨fun s t i h => ⟨?_, ?_, ?_⟩, ?_, fun s t a b c d i h hrdst => exec_withResultFlags h hrdst a b c d⟩
  · rintro ⟨rfl, hm⟩
    exact exec_vend_flags hm h
  · intro hclear
    obtain ⟨-, hflags⟩ := noResult_of_exec hclear h
    exact hflags
  · intro hvbeg hclr hvend
    obtain ⟨-, hflags⟩ := exec_sameResult h hvbeg hclr hvend
    exact hflags
  · intro s t rest hin h
    obtain ⟨-, hflags⟩ := noResult_of_reset hin h
    exact hflags

/-! ### FTYPE (R18) -/

/-- The OK word is the answer of the verdict OK alone (R66). -/
theorem responseWord_verd_eq_ok (v : Verdict) : responseWord (.verd v) = 0x0301 ↔ v = .ok := by
  cases v <;> decide

/-- A VEND in CHK answers the OK word exactly when its verdict is OK, and gives FTYPE by its verdict and FCB (R142). -/
theorem exec_vend_ftype {s t : State} (hm : s.mode = .chk) (h : exec .vend s = .next t) :
    (t.responses = s.responses ++ [0x0301] ↔ frameVerdict s = .ok) ∧ t.ftype = frameTypeOf (frameVerdict s) s.fcb := by
  cases (exec_vend_chk hm).symm.trans h
  refine ⟨?_, rfl⟩
  rw [← responseWord_verd_eq_ok]
  simp

theorem frameTypeOf_ok (b : Byte) : frameTypeOf .ok b = if b.getLsbD 7 then .exception else .request := rfl

theorem frameTypeOf_ne_ok {v : Verdict} (hv : v ≠ .ok) (b : Byte) : frameTypeOf v b = .none := if_pos hv

/-- No command writes RESPONSE. -/
theorem exec_ftype_ne_response {i : Instr} {s t : State} (h : exec i s = .next t) (hs : s.ftype ≠ .response) :
    t.ftype ≠ .response := by
  by_cases hclear : i = .vbeg ∨ i = .clr
  · obtain ⟨hnone, -⟩ := noResult_of_exec hclear h
    simp [hnone]
  · by_cases hvend : i = .vend ∧ s.mode = .chk
    · obtain ⟨rfl, hm⟩ := hvend
      obtain ⟨-, hft⟩ := exec_vend_ftype hm h
      exact hft ▸ frameTypeOf_ne_response _ _
    · obtain ⟨hvbeg, hclr⟩ := not_or.1 hclear
      obtain ⟨hsame, -⟩ := exec_sameResult h hvbeg hclr hvend
      exact hsame ▸ hs

/-- Settles O33, from the same cases as the result flags, VEND's by its verdict. -/
theorem frameTypeWriters : Obligations.FrameTypeWriters := by
  refine ⟨rfl, rfl, rfl, rfl, fun s t i h => ⟨?_, ?_, ?_, exec_ftype_ne_response h⟩, ?_⟩
  · intro hclear
    obtain ⟨hnone, -⟩ := noResult_of_exec hclear h
    exact hnone
  · rintro ⟨rfl, hm⟩
    obtain ⟨hok, hft⟩ := exec_vend_ftype hm h
    rw [hok, hft]
    refine ⟨?_, ?_, fun hne => frameTypeOf_ne_ok (mt hok.2 hne) s.fcb⟩
    · rintro ⟨hv, hbit⟩
      rw [hv, frameTypeOf_ok, hbit, if_pos rfl]
    · rintro ⟨hv, hbit⟩
      rw [hv, frameTypeOf_ok, hbit]
      rfl
  · intro hvbeg hclr hvend
    obtain ⟨hsame, -⟩ := exec_sameResult h hvbeg hclr hvend
    exact hsame
  · intro s t rest hin h
    obtain ⟨hnone, -⟩ := noResult_of_reset hin h
    exact hnone

/-! ### The reset state (R27) -/

/-- What the eight reads, in the order of their opcodes, answer from reset. -/
theorem reads_after_reset :
    ∃ t, runCommands [.rdst, .rdaddr, .rdfc, .rdexc, .rdtyp, .rdlen, .rdcrl, .rdcrh] State.reset = .next t ∧
      t.responses = [0x0400, 0x0400, 0x0400, 0x0400, 0x0400, 0x0400, 0x04FF, 0x04FF] :=
  ⟨_, rfl, rfl⟩

/-- Settles O17: the reset values, field by field, and the run of the reads. -/
theorem resetStateValues : Obligations.ResetStateValues :=
  ⟨rfl, rfl, rfl, rfl, rfl, rfl, rfl, rfl, rfl, rfl, rfl, rfl, rfl, rfl, rfl, rfl, reads_after_reset⟩

end Sys2Proof.Machine
end

section
/-! PROOFS. The statement on runs of presented commands (20_memory.md), and before it the facts it rests on: a command's own word
decodes to it, no command reads what the host presents later, every command answers one word, and a run is the fold. -/

namespace Sys2Proof.Machine

/-! ### A command's word (R60, R62) -/

/-- No two rows of the map have one opcode. -/
theorem opcodeTable_opcodes_nodup : (opcodeTable.map fun r => hi r.matchWord).Nodup := by
  decide

/-- A word selects at most one row of the map (R63). -/
theorem row_eq_of_selects {r q : OpRow} {w : Word} (hr : r ∈ opcodeTable) (hq : q ∈ opcodeTable) (hrw : r.selects w = true)
    (hqw : q.selects w = true) : r = q := by
  have hrop : hi r.matchWord = hi w := ((selects_iff hr w).1 hrw).1
  have hqop : hi q.matchWord = hi w := ((selects_iff hq w).1 hqw).1
  exact List.inj_on_of_nodup_map opcodeTable_opcodes_nodup hr hq (hrop.trans hqop.symm)

/-- A word decodes by whichever row it selects, wherever in the map that row stands. -/
theorem decode_of_selects {r : OpRow} {w : Word} (hr : r ∈ opcodeTable) (hrw : r.selects w = true) :
    decode w = .ok (r.build (operandField w)) := by
  have hfind : opcodeTable.find? (fun q => q.selects w) = some r := by
    obtain ⟨q, hq⟩ := Option.isSome_iff_exists.1 (List.find?_isSome (p := fun q : OpRow => q.selects w).2 ⟨r, hr, hrw⟩)
    have hqw : q.selects w = true := List.find?_some (p := fun q : OpRow => q.selects w) hq
    rw [hq, row_eq_of_selects (List.mem_of_find?_eq_some hq) hr hqw hrw]
  simp [decode, hfind]

theorem encodedForm (i : Instr) : Laws.EncodedForm.Statement i := by
  cases i with
  | nop => exact Laws.EncodedForm.nop
  | clr => exact Laws.EncodedForm.clr
  | gbeg => exact Laws.EncodedForm.gbeg
  | gbyte d => exact Laws.EncodedForm.gbyte d
  | gexc d => exact Laws.EncodedForm.gexc d
  | gcrl => exact Laws.EncodedForm.gcrl
  | gcrh => exact Laws.EncodedForm.gcrh
  | vbeg => exact Laws.EncodedForm.vbeg
  | vbyte d => exact Laws.EncodedForm.vbyte d
  | vend => exact Laws.EncodedForm.vend
  | rdst => exact Laws.EncodedForm.rdst
  | rdaddr => exact Laws.EncodedForm.rdaddr
  | rdfc => exact Laws.EncodedForm.rdfc
  | rdexc => exact Laws.EncodedForm.rdexc
  | rdtyp => exact Laws.EncodedForm.rdtyp
  | rdlen => exact Laws.EncodedForm.rdlen
  | rdcrl => exact Laws.EncodedForm.rdcrl
  | rdcrh => exact Laws.EncodedForm.rdcrh

theorem decode_encode (i : Instr) : decode (encode i) = .ok i := by
  obtain ⟨-, r, hr, hsel, hbuild⟩ := encodedForm i
  rw [decode_of_selects hr hsel, hbuild]

/-! ### What a command does to the ports (R48) -/

/-- No command's effect reads what the host presents later. -/
theorem commandEffect_presentEvents (es : List PortEvent) (i : Instr) (s : State) :
    commandEffect i (presentEvents es s) = presentEvents es (commandEffect i s) := by
  cases i <;> rfl

/-- No command's answer reads what the host presents later. -/
theorem commandAnswer_presentEvents (es : List PortEvent) (i : Instr) (s : State) :
    commandAnswer i (presentEvents es s) = commandAnswer i s := by
  cases i <;> rfl

/-- A command does the same whatever the host presents later. -/
theorem exec_presentEvents {i : Instr} {s t : State} (h : exec i s = .next t) (es : List PortEvent) :
    exec i (presentEvents es s) = .next (presentEvents es t) := by
  rcases exec_cases h with ⟨m, hr, hm, rfl⟩ | ⟨hr, rfl⟩
  · rw [exec_of_mode_ne (s := presentEvents es s) hr hm]
    rfl
  · rw [exec_of_mode_eq (s := presentEvents es s) hr, commandEffect_presentEvents, commandAnswer_presentEvents]
    rfl

/-- A command answers one word, after the words already given. -/
theorem exec_responses {i : Instr} {s t : State} (h : exec i s = .next t) : ∃ r, t.responses = s.responses ++ [r] := by
  rcases exec_cases h with ⟨m, -, -, rfl⟩ | ⟨-, rfl⟩
  · exact ⟨_, raiseErr_responses .seq s⟩
  · exact ⟨responseWord (commandAnswer i s), by simp⟩

/-- The next step takes the first of the presented commands. -/
theorem step_present_cons (i : Instr) (cs : List Instr) (s : State) : step (present (i :: cs) s) = exec i (present cs s) :=
  step_command (present_inputs (i :: cs) s) (decode_encode i)

/-! ### Runs of presented commands -/

theorem foldExec_cons {i : Instr} {s t : State} (h : exec i s = .next t) (cs : List Instr) :
    foldExec (i :: cs) s = foldExec cs t := by
  simp [foldExec, h]

theorem foldExec_append {xs : List Instr} {s t : State} (h : foldExec xs s = .next t) (ys : List Instr) :
    foldExec (xs ++ ys) s = foldExec ys t := by
  induction xs generalizing s with
  | nil =>
    cases h
    rfl
  | cons x xs ih =>
    obtain ⟨u, hu⟩ := exec_total x s
    rw [foldExec_cons hu] at h
    rw [List.cons_append, foldExec_cons hu, ih h]

/-- A fold never stops and answers one word for each command. -/
theorem foldExec_total (cs : List Instr) (s : State) :
    ∃ t rs, foldExec cs s = .next t ∧ t.responses = s.responses ++ rs ∧ rs.length = cs.length := by
  induction cs generalizing s with
  | nil => exact ⟨s, [], rfl, by simp, rfl⟩
  | cons i cs ih =>
    obtain ⟨u, hu⟩ := exec_total i s
    obtain ⟨r, hr⟩ := exec_responses hu
    obtain ⟨t, rs, ht, hrs, hlen⟩ := ih u
    exact ⟨t, r :: rs, (foldExec_cons hu cs).trans ht, by simp [hrs, hr], by simp [hlen]⟩

theorem run_succ {s t : State} (h : step s = .next t) (n : Nat) :
    Host.Core.run Sys2Proof.core (n + 1) s = Host.Core.run Sys2Proof.core n t := by
  have hcore : Sys2Proof.core.step s = .next t := h
  simp only [Host.Core.run, hcore]

/-- A run of presented commands is the fold of their meanings, from the state with nothing more presented (R48). -/
theorem runCommands_eq_foldExec (cs : List Instr) (s : State) : runCommands cs s = foldExec cs (present [] s) := by
  induction cs generalizing s with
  | nil => rfl
  | cons i cs ih =>
    obtain ⟨t, ht⟩ := exec_total i s
    have hstep : step (present (i :: cs) s) = .next (present cs t) :=
      (step_present_cons i cs s).trans (exec_presentEvents ht _)
    calc runCommands (i :: cs) s
      _ = runCommands cs t := run_succ hstep cs.length
      _ = foldExec cs (present [] t) := ih t
      _ = foldExec (i :: cs) (present [] s) := (foldExec_cons (exec_presentEvents ht _) cs).symm

/-- Settles O16: the run is the fold, and the fold is cut at the command `i` into the commands before it, `i` itself, and the
commands after it, each part answering one word for each of its commands. -/
theorem runIsTheFoldOfItsCommands : Obligations.RunIsTheFoldOfItsCommands := by
  intro xs ys i s
  obtain ⟨t, rx, ht, hrx, hxlen⟩ := foldExec_total xs (present [] s)
  obtain ⟨u, hu⟩ := exec_total i t
  obtain ⟨r, hr⟩ := exec_responses hu
  obtain ⟨v, ry, hv, hry, hylen⟩ := foldExec_total ys u
  have hwhole : foldExec (xs ++ i :: ys) (present [] s) = .next v := by
    rw [foldExec_append ht, foldExec_cons hu, hv]
  rw [present_responses] at hrx
  refine ⟨runCommands_eq_foldExec _ s, t, u, v, rx, ry, r, ?_, hu, ?_, hrx, hxlen, hr, ?_, hylen⟩
  · rw [runCommands_eq_foldExec, ht]
  · rw [runCommands_eq_foldExec, hwhole]
  · simp [hry, hr, hrx]

end Sys2Proof.Machine
end

section
/-! PROOFS. The statements on the encoding (30_encoding.md), and before them the facts they rest on: what a word that selects a row
of the map decodes to, when a command is refused, which commands a response can answer, and what a command word is answered. -/

namespace Sys2Proof.Machine

/-! ### The pseudo-instructions (R73) -/

theorem expand_gframe (bs : List Byte) : expand (.gframe bs) = .gbeg :: (bs.map (fun b => .gbyte b) ++ [.gcrl, .gcrh]) := rfl

theorem expand_gxframe (a f e : Byte) : expand (.gxframe a f e) = [.gbeg, .gbyte a, .gexc f, .gbyte e, .gcrl, .gcrh] := rfl

theorem expand_vframe (bs : List Byte) : expand (.vframe bs) = .vbeg :: (bs.map (fun b => .vbyte b) ++ [.vend]) := rfl

theorem expand_crc16 (bs : List Byte) : expand (.crc16 bs) = .gbeg :: (bs.map (fun b => .gbyte b) ++ [.rdcrl, .rdcrh]) := rfl

/-- Settles O7: the four equations of `expand`. -/
theorem pseudoInstructionsExpand : Obligations.PseudoInstructionsExpand :=
  ⟨expand_gframe, expand_gxframe, expand_vframe, expand_crc16⟩

/-! ### The opcode map (R62) -/

/-- A word that meets the match and mask of the map's row `k` decodes to that row's command. -/
theorem decode_of_row (k : Fin 18) {w : Word} (h : w &&& (opcodeTable.get k).mask = (opcodeTable.get k).matchWord) :
    decode w = .ok ((opcodeTable.get k).build (operandField w)) :=
  decode_of_selects (List.get_mem _ _) (beq_iff_eq.2 h)

/-- A command answers one word, of the error kind exactly when its mode check fails (R110). -/
theorem exec_answer_ne_err_iff (i : Instr) (s : State) : ∃ (t : State) (r : Word), exec i s = .next t ∧
    t.responses = s.responses ++ [r] ∧ (hi r ≠ 0x0F ↔ ∀ m, requiredMode i = some m → s.mode = m) := by
  rcases mode_refuses_or_not i s with ⟨m, hr, hm⟩ | hr
  · refine ⟨_, _, exec_of_mode_ne hr hm, raiseErr_responses .seq s, fun hne => absurd ?_ hne, fun hall => absurd (hall m hr) hm⟩
    exact hi_responseWord (.err .seq)
  · refine ⟨_, responseWord (commandAnswer i s), exec_of_mode_eq hr, by simp, fun _ m hm => ?_, fun _ => ?_⟩
    · rcases hr with hr | hr <;> rw [hm] at hr <;> cases hr
      rfl
    · rw [hi_responseWord, ne_eq, responseKind_eq_err]
      rintro ⟨e, he⟩
      exact commandAnswer_ne_err i s e he

/-- Settles O4: the rows one by one, and the mode check of each command. -/
theorem opcodeMapSelectsTheCommand : Obligations.OpcodeMapSelectsTheCommand := by
  refine ⟨fun w => ⟨decode_of_row 0, decode_of_row 1, decode_of_row 2, decode_of_row 3, decode_of_row 4, decode_of_row 5,
    decode_of_row 6, decode_of_row 7, decode_of_row 8, decode_of_row 9, decode_of_row 10, decode_of_row 11, decode_of_row 12,
    decode_of_row 13, decode_of_row 14, decode_of_row 15, decode_of_row 16, decode_of_row 17⟩, fun i s => ?_⟩
  obtain ⟨t, r, hexec, hresp, hkind⟩ := exec_answer_ne_err_iff i s
  refine ⟨t, r, hexec, hresp, hkind.trans ?_⟩
  cases i with
  | gbyte | gexc | gcrl | gcrh | vbyte | vend => exact ⟨fun hall => hall _ rfl, fun hm _ hr => hm.trans (Option.some.inj hr)⟩
  | nop | clr | gbeg | vbeg | rdst | rdaddr | rdfc | rdexc | rdtyp | rdlen | rdcrl | rdcrh =>
    exact ⟨fun _ => trivial, fun _ _ hr => nomatch hr⟩

/-! ### The response to a command word (R61) -/

theorem responseKind_eq_ack {a : Response} : responseKind a = 0x00 ↔ a = .ack := by
  cases a <;> simp [responseKind]

theorem responseKind_eq_wire {a : Response} : responseKind a = 0x01 ↔ ∃ d, a = .wire d := by
  cases a <;> simp [responseKind]

theorem responseKind_eq_pay {a : Response} : responseKind a = 0x02 ↔ ∃ d, a = .pay d := by
  cases a <;> simp [responseKind]

theorem responseKind_eq_verd {a : Response} : responseKind a = 0x03 ↔ ∃ v, a = .verd v := by
  cases a <;> simp [responseKind]

theorem responseKind_eq_val {a : Response} : responseKind a = 0x04 ↔ ∃ d, a = .val d := by
  cases a <;> simp [responseKind]

theorem verdictCode_mem (v : Verdict) : verdictCode v ∈ [0x01, 0x02, 0x03, 0x04, 0x05] := by
  cases v <;> decide

theorem errCode_mem (e : ErrCode) : errCode e ∈ [0x01, 0x02] := by
  cases e <;> decide

/-- The six kinds, and the data a word of each can have (R61, R66, R67). -/
theorem responseKind_data_cases (a : Response) :
    (responseKind a = 0x00 ∧ responseData a = 0x00) ∨ responseKind a = 0x01 ∨ responseKind a = 0x02 ∨
      (responseKind a = 0x03 ∧ responseData a ∈ [0x01, 0x02, 0x03, 0x04, 0x05]) ∨ responseKind a = 0x04 ∨
      (responseKind a = 0x0F ∧ responseData a ∈ [0x01, 0x02]) := by
  cases a with
  | ack => exact .inl ⟨rfl, rfl⟩
  | wire d => exact .inr (.inl rfl)
  | pay d => exact .inr (.inr (.inl rfl))
  | verd v => exact .inr (.inr (.inr (.inl ⟨rfl, verdictCode_mem v⟩)))
  | val d => exact .inr (.inr (.inr (.inr (.inl rfl))))
  | err e => exact .inr (.inr (.inr (.inr (.inr ⟨rfl, errCode_mem e⟩))))

/-- What a word must have decoded to for this response to answer it (R61). An error answers any word. -/
def Answers : Response → Except IllegalWord Instr → Prop
  | .ack, x => x ∈ [.ok .nop, .ok .clr, .ok .gbeg, .ok .vbeg] ∨ ∃ d, x = .ok (.vbyte d)
  | .wire _, x => x ∈ [.ok .gcrl, .ok .gcrh] ∨ ∃ d, x = .ok (.gbyte d) ∨ x = .ok (.gexc d)
  | .pay _, x => ∃ d, x = .ok (.vbyte d)
  | .verd _, x => x = .ok .vend
  | .val _, x => ∃ i, x = .ok i ∧ isRead i = true
  | .err _, _ => True

/-- VBYTE answers ACK or PAY. -/
theorem byteResponse_answers (d : Byte) (s : State) : Answers (byteResponse s) (.ok (.vbyte d)) := by
  rw [byteResponse]
  split
  · exact ⟨d, rfl⟩
  · exact .inr ⟨d, rfl⟩

theorem commandAnswer_answers (i : Instr) (s : State) : Answers (commandAnswer i s) (.ok i) := by
  cases i with
  | nop | clr | gbeg | vbeg => exact .inl (by simp)
  | gcrl | gcrh => exact .inl (by simp)
  | gbyte d => exact .inr ⟨d, .inl rfl⟩
  | gexc d => exact .inr ⟨d, .inr rfl⟩
  | vbyte d => exact byteResponse_answers d s
  | vend => exact rfl
  | rdst | rdaddr | rdfc | rdexc | rdtyp | rdlen | rdcrl | rdcrh => exact ⟨_, rfl, rfl⟩

/-- A command word is answered by one response, which can answer what the word decodes to; an error changes the sticky flags at
most (R61, R110, R201). -/
theorem step_command_answer {s : State} {w : Word} {rest : List PortEvent} (h : s.inputs = .command w :: rest) :
    ∃ (t : State) (a : Response), step s = .next t ∧ t.responses = s.responses ++ [responseWord a] ∧ Answers a (decode w) ∧
      ((∃ e, a = .err e) →
        t = { s with inputs := rest, eIll := t.eIll, eSeq := t.eSeq, responses := s.responses ++ [responseWord a] }) := by
  cases hd : decode w with
  | error e => exact ⟨_, .err .ill, step_illegal h hd, rfl, trivial, fun _ => rfl⟩
  | ok i =>
    rw [step_command h hd]
    rcases mode_refuses_or_not i { s with inputs := rest } with ⟨m, hr, hm⟩ | hr
    · exact ⟨_, .err .seq, exec_of_mode_ne hr hm, rfl, trivial, fun _ => rfl⟩
    · refine ⟨_, commandAnswer i { s with inputs := rest }, exec_of_mode_eq hr, by simp, commandAnswer_answers i _, ?_⟩
      rintro ⟨e, he⟩
      exact absurd he (commandAnswer_ne_err i _ e)

/-- Settles O13: the response's kind says which response it is, and so what it can answer. -/
theorem oneLegalResponsePerCommandWord : Obligations.OneLegalResponsePerCommandWord := by
  intro s w rest h
  obtain ⟨t, a, hstep, hresp, hans, herr⟩ := step_command_answer h
  refine ⟨t, responseWord a, hstep, hresp, ?_⟩
  rw [hi_responseWord, lo_responseWord]
  refine ⟨responseKind_data_cases a, fun hk => ?_, fun hk => ?_, fun hk => ?_, fun hk => ?_, fun hk => ?_, fun hk => ?_⟩
  · cases responseKind_eq_ack.1 hk
    exact hans
  · obtain ⟨d, rfl⟩ := responseKind_eq_wire.1 hk
    exact hans
  · obtain ⟨d, rfl⟩ := responseKind_eq_pay.1 hk
    exact hans
  · obtain ⟨v, rfl⟩ := responseKind_eq_verd.1 hk
    exact hans
  · obtain ⟨d, rfl⟩ := responseKind_eq_val.1 hk
    exact hans
  · exact herr ((responseKind_eq_err a).1 hk)

end Sys2Proof.Machine
end

section
/-! PROOFS. The statement on the three CRC functions as the rules give them (40_crc_arithmetic.md section 1), and before it one
lemma per function in the rules' own form. -/

namespace Sys2Proof.Machine

/-! ### The three CRC functions (R90 to R92) -/

/-- Bit 0 is the parity of the number. -/
theorem getLsbD_zero_iff_odd (r : Word) : r.getLsbD 0 = true ↔ r.toNat % 2 = 1 := by
  rw [BitVec.getLsbD, Nat.testBit_zero, decide_eq_true_iff]

/-- The logical right shift by one is halving. -/
theorem toNat_shiftRight_one (r : Word) : (r >>> 1).toNat = r.toNat / 2 := by
  rw [BitVec.toNat_ushiftRight, Nat.shiftRight_one]

/-- One bit step on numbers (R90). -/
theorem crcShift_toNat (r : Word) :
    (crcShift r).toNat = if r.toNat % 2 = 1 then (r.toNat / 2) ^^^ 0xA001 else r.toNat / 2 := by
  simp only [crcShift, getLsbD_zero_iff_odd]
  split
  · rw [BitVec.toNat_xor, toNat_shiftRight_one]
    rfl
  · exact toNat_shiftRight_one r

/-- One byte step is eight bit steps on the register with the byte XORed in (R91). -/
theorem crcUpd_eq_iterate (r : Word) (b : Byte) : crcUpd r b = crcShift^[8] (r ^^^ b.setWidth 16) := rfl

@[simp] theorem crc16_nil : crc16 [] = 0xFFFF := rfl

/-- The last byte is absorbed last (R92). -/
theorem crc16_append_singleton (s : List Byte) (b : Byte) : crc16 (s ++ [b]) = crcUpd (crc16 s) b :=
  crc16_append s [b]

/-- Settles O42: the three functions' equations. -/
theorem crcFunctionsAsTheRulesGiveThem : Obligations.CrcFunctionsAsTheRulesGiveThem :=
  ⟨crcShift_toNat, crcUpd_eq_iterate, crc16_nil, crc16_append_singleton⟩

end Sys2Proof.Machine
end

section
/-! PROOFS. The statements on control (41_control.md), and before them the facts they rest on: the three endings of a step exclude
each other, and what a command does to MODE in a mode it may run in and in one it may not. -/

namespace Sys2Proof.Machine

/-! ### The three endings of a step (R110) -/

/-- A command refused for its mode may not run in it: the two cases of `mode_refuses_or_not` exclude each other. -/
theorem not_mayRun_of_mode_ne {i : Instr} {m : Mode} {s : State} (h : requiredMode i = some m) (hm : s.mode ≠ m) :
    ¬ (requiredMode i = none ∨ requiredMode i = some s.mode) := by
  rw [h]
  rintro (hr | hr) <;> cases hr
  exact hm rfl

/-- A command that may run does not answer an error. -/
theorem hi_commandAnswer_ne_err (i : Instr) (s : State) : hi (responseWord (commandAnswer i s)) ≠ 0x0F := by
  rw [hi_responseWord, ne_eq, responseKind_eq_err]
  rintro ⟨e, he⟩
  exact commandAnswer_ne_err i s e he

/-- The two endings of a command that decoded: refused with SEQ and nothing else, or executed without an error (R110 steps 2, 3). -/
theorem exec_refused_or_executed (i : Instr) (s : State) :
    ∃ (t : State) (r : Word), exec i s = .next t ∧ t.responses = s.responses ++ [r] ∧ t.inputs = s.inputs ∧
      (∀ m, requiredMode i = some m → s.mode ≠ m →
        r = 0x0F02 ∧ t = { s with eSeq := true, responses := s.responses ++ [r] }) ∧
      (requiredMode i = none ∨ requiredMode i = some s.mode → hi r ≠ 0x0F ∧ t.eIll = s.eIll ∧ t.eSeq = s.eSeq) := by
  rcases mode_refuses_or_not i s with ⟨m, hr, hm⟩ | hr
  · exact ⟨_, _, exec_of_mode_ne hr hm, raiseErr_responses .seq s, rfl, fun _ _ _ => ⟨rfl, raiseErr_seq s⟩,
      fun hrun => absurd hrun (not_mayRun_of_mode_ne hr hm)⟩
  · exact ⟨_, responseWord (commandAnswer i s), exec_of_mode_eq hr, by simp, by simp,
      fun m hm hne => absurd hr (not_mayRun_of_mode_ne hm hne), fun _ => ⟨hi_commandAnswer_ne_err i s, by simp, by simp⟩⟩

/-- Settles O12: an illegal word by what it raises, a command by its two endings. -/
theorem stepEndsInExactlyOneOfThreeWays : Obligations.StepEndsInExactlyOneOfThreeWays := by
  intro s w rest h
  cases hd : decode w with
  | error e =>
    exact ⟨_, responseWord (.err .ill), step_illegal h hd, raiseErr_responses .ill _, rfl, fun _ => ⟨rfl, raiseErr_ill _⟩,
      nofun, nofun⟩
  | ok i =>
    obtain ⟨t, r, hexec, hresp, hinputs, hrefused, hexecuted⟩ := exec_refused_or_executed i { s with inputs := rest }
    refine ⟨t, r, (step_command h hd).trans hexec, hresp, hinputs, fun hill => absurd rfl (hill i), ?_, ?_⟩
    · intro j m hj hm hne
      cases hj
      exact hrefused m hm hne
    · intro j hj hrun
      cases hj
      obtain ⟨hkind, hIll, hSeq⟩ := hexecuted hrun
      exact ⟨hkind, hIll, hSeq, hexec⟩

/-! ### MODE (R113) -/

/-- A command that may run leaves MODE as the table of R113 says. -/
theorem commandEffect_mode {i : Instr} {s : State} (h : requiredMode i = none ∨ requiredMode i = some s.mode) :
    (commandEffect i s).mode = modeAfter i s.mode := by
  cases i with
  | gcrl | gcrh | vend =>
    have hm : some _ = some s.mode := h.resolve_left nofun
    rw [← Option.some.inj hm]
    rfl
  | nop | clr | gbeg | gbyte | gexc | vbeg | vbyte | rdst | rdaddr | rdfc | rdexc | rdtyp | rdlen | rdcrl | rdcrh => rfl

/-- In the table of R113 a refused command leaves MODE. -/
theorem modeAfter_of_mode_ne {i : Instr} {m n : Mode} (h : requiredMode i = some m) (hn : n ≠ m) : modeAfter i n = n := by
  cases i with
  | gcrl =>
    cases h
    cases n
    case gen => exact absurd rfl hn
    all_goals rfl
  | gcrh =>
    cases h
    cases n
    case gent => exact absurd rfl hn
    all_goals rfl
  | vend =>
    cases h
    cases n
    case chk => exact absurd rfl hn
    all_goals rfl
  | nop | clr | gbeg | vbeg | rdst | rdaddr | rdfc | rdexc | rdtyp | rdlen | rdcrl | rdcrh => exact nomatch h
  | gbyte | gexc | vbyte => rfl

theorem exec_mode {i : Instr} {s t : State} (h : exec i s = .next t) : t.mode = modeAfter i s.mode := by
  rcases exec_cases h with ⟨m, hr, hm, rfl⟩ | ⟨hr, rfl⟩
  · rw [modeAfter_of_mode_ne hr hm, raiseErr_seq]
  · rw [respond_mode, commandEffect_mode hr]

/-- The begin commands and CLR answer ACK in every mode. -/
theorem exec_responses_of_begin {i : Instr} {s t : State} (hi : i = .gbeg ∨ i = .vbeg ∨ i = .clr) (h : exec i s = .next t) :
    t.responses = s.responses ++ [0x0000] := by
  rcases hi with rfl | rfl | rfl <;> cases h <;> rfl

/-- Settles O15: a command by its two cases, a reset pulse by the reset state, an illegal word by what it raises. -/
theorem modeMachineTransitions : Obligations.ModeMachineTransitions := by
  refine ⟨fun i s => ?_, ?_, ?_⟩
  · obtain ⟨t, r, hexec, hresp, hkind⟩ := exec_answer_ne_err_iff i s
    refine ⟨t, r, hexec, exec_mode hexec, hresp, by simpa using not_congr hkind, fun hbegin => ?_⟩
    have hack : s.responses ++ [r] = s.responses ++ [0x0000] := hresp ▸ exec_responses_of_begin hbegin hexec
    simpa using hack
  · intro s t rest hin h
    cases (step_reset hin).symm.trans h
    rfl
  · intro s t w rest hin hill h
    cases hd : decode w with
    | error e =>
      cases (step_illegal hin hd).symm.trans h
      rfl
    | ok i => exact absurd hd (hill i)

/-! ### NOP and CLR (R111, R112) -/

theorem respond_ack (s : State) : respond .ack s = { s with responses := s.responses ++ [0x0000] } := rfl

theorem exec_nop (s : State) : exec .nop s = .next (respond .ack s) := exec_of_mode_eq (.inl rfl)

theorem exec_clr (s : State) : exec .clr s = .next (respond .ack (setMode .idle (clearFrame s))) := exec_of_mode_eq (.inl rfl)

/-- Settles O20: NOP runs in every mode, and answers ACK over an unchanged state. -/
theorem nopChangesNothing : Obligations.NopChangesNothing := by
  intro s
  rw [exec_nop, respond_ack]

/-- Settles O21: CLR runs in every mode, and answers ACK over the cleared registers. -/
theorem clrClearsAllButStickyFlags : Obligations.ClrClearsAllButStickyFlags := by
  intro s
  rw [exec_clr, respond_ack]
  rfl

end Sys2Proof.Machine
end

section
/-! PROOFS. The statements on the generate commands (42_generate.md), and before them what a command answers in the mode it requires
and in any other. -/

namespace Sys2Proof.Machine

/-! ### A command that requires a mode (R110, R203) -/

theorem exec_of_required_mode {i : Instr} {m : Mode} {s : State} (h : requiredMode i = some m) (hm : s.mode = m) :
    exec i s = .next (respond (commandAnswer i s) (commandEffect i s)) :=
  exec_of_mode_eq (.inr (h.trans (congrArg some hm.symm)))

/-- The refusal with the word of Err(SEQ) written out. -/
theorem exec_refused {i : Instr} {m : Mode} {s : State} (h : requiredMode i = some m) (hm : s.mode ≠ m) :
    exec i s = .next { s with eSeq := true, responses := s.responses ++ [0x0F02] } :=
  (exec_of_mode_ne h hm).trans (congrArg Host.Outcome.next (raiseErr_seq s))

theorem respond_wire (d : Byte) (s : State) : respond (.wire d) s = { s with responses := s.responses ++ [0x01#8 ++ d] } := rfl

/-! ### The generate commands (R120 to R124) -/

theorem exec_gbeg (s : State) : exec .gbeg s = .next (respond .ack (setMode .gen (setCrc 0xFFFF s))) := exec_of_mode_eq (.inl rfl)

theorem exec_gbyte_gen (d : Byte) {s : State} (hm : s.mode = .gen) :
    exec (.gbyte d) s = .next (respond (.wire d) (absorb d s)) :=
  exec_of_required_mode (i := .gbyte d) rfl hm

theorem exec_gexc_gen (d : Byte) {s : State} (hm : s.mode = .gen) :
    exec (.gexc d) s = .next (respond (.wire (markException d)) (absorb (markException d) s)) :=
  exec_of_required_mode (i := .gexc d) rfl hm

theorem exec_gcrl_gen {s : State} (hm : s.mode = .gen) :
    exec .gcrl s = .next (respond (.wire (lo s.crc)) (setMode .gent s)) :=
  exec_of_required_mode (i := .gcrl) rfl hm

theorem exec_gcrh_gent {s : State} (hm : s.mode = .gent) :
    exec .gcrh s = .next (respond (.wire (hi s.crc)) (setMode .idle s)) :=
  exec_of_required_mode (i := .gcrh) rfl hm

/-- The exception flag is bit 7 alone, so forcing it changes no byte that has it (R122). -/
theorem markException_of_getLsbD_seven {d : Byte} (h : d.getLsbD 7 = true) : markException d = d := by
  have hflag : Config.exceptionFlag = BitVec.twoPow 8 7 := by decide
  apply BitVec.eq_of_getLsbD_eq
  intro k hk
  rw [markException, hflag, BitVec.getLsbD_or, BitVec.getLsbD_twoPow]
  by_cases hk7 : 7 = k
  · subst hk7
    simp [h]
  · simp [hk7]

/-- GEXC is GBYTE of the marked byte, in GEN and where both are refused. -/
theorem exec_gexc_eq_exec_gbyte (d : Byte) (s : State) : exec (.gexc d) s = exec (.gbyte (markException d)) s := by
  by_cases hm : s.mode = .gen
  · rw [exec_gexc_gen d hm, exec_gbyte_gen _ hm]
  · rw [exec_refused (i := .gexc d) rfl hm, exec_refused (i := .gbyte _) rfl hm]

/-- Settles O22: GBEG runs in every mode, and answers ACK over the two registers it writes. -/
theorem gbegStartsAFrame : Obligations.GbegStartsAFrame := by
  intro s
  rw [exec_gbeg, respond_ack]
  rfl

/-- Settles O23: in GEN the byte is absorbed and answered, elsewhere the command is refused. -/
theorem gbyteAbsorbsAndEchoes : Obligations.GbyteAbsorbsAndEchoes := by
  refine fun d s => ⟨fun hm => ?_, exec_refused rfl⟩
  rw [exec_gbyte_gen d hm, respond_wire]
  rfl

/-- Settles O24: GEXC is GBYTE of the marked byte, and marking keeps a byte that has bit 7 set. -/
theorem gexcMarksAbsorbsAndEchoes : Obligations.GexcMarksAbsorbsAndEchoes := by
  refine fun d s => ⟨fun hm => ?_, exec_refused rfl, fun hbit => ?_⟩
  · rw [exec_gexc_gen d hm, respond_wire]
    rfl
  · rw [exec_gexc_eq_exec_gbyte, markException_of_getLsbD_seven hbit]

/-- Settles O25: in GEN the low byte is answered and MODE set, elsewhere the command is refused. -/
theorem gcrlPutsOutTheLowByte : Obligations.GcrlPutsOutTheLowByte := by
  refine fun s => ⟨fun hm => ?_, exec_refused rfl⟩
  rw [exec_gcrl_gen hm, respond_wire]
  rfl

/-- Settles O26: in GENT the high byte is answered and MODE set, elsewhere the command is refused. -/
theorem gcrhPutsOutTheHighByte : Obligations.GcrhPutsOutTheHighByte := by
  refine fun s => ⟨fun hm => ?_, exec_refused rfl⟩
  rw [exec_gcrh_gent hm, respond_wire]
  rfl

end Sys2Proof.Machine
end

section
/-! PROOFS. The statements on the verify commands (43_verify.md), and before them what the commands do in CHK, and the intake and the
judgement in the rules' own form. -/

namespace Sys2Proof.Machine

/-! ### VBEG (R140) -/

theorem exec_vbeg (s : State) : exec .vbeg s = .next (respond .ack (setMode .chk (clearFrame s))) := exec_of_mode_eq (.inl rfl)

/-- Clearing leaves nothing of a frame: cleared blocks with the same parameter and the same inputs to come differ in MODE, in the
sticky flags and in the words already answered, and in nothing else. -/
theorem clearFrame_eq_clearFrame {s u : State} (hmy : s.myAddr = u.myAddr) (hin : s.inputs = u.inputs) :
    clearFrame u = { clearFrame s with mode := u.mode, eIll := u.eIll, eSeq := u.eSeq, responses := u.responses } := by
  rw [clearFrame, ← hmy, ← hin]
  rfl

/-- Settles O27: VBEG runs in every mode, and answers ACK over the cleared registers, which keep nothing of an earlier frame. -/
theorem vbegClearsAndStartsChecking : Obligations.VbegClearsAndStartsChecking := by
  refine ⟨fun s u hmy hin => ⟨_, exec_vbeg s, ?_⟩, fun s => ?_⟩
  · rw [exec_vbeg, respond_ack, clearFrame_eq_clearFrame hmy hin]
    rfl
  · rw [exec_vbeg, respond_ack]
    rfl

/-! ### VBYTE (R141) -/

theorem exec_vbyte_chk (d : Byte) {s : State} (hm : s.mode = .chk) :
    exec (.vbyte d) s = .next (respond (byteResponse s) (takeByte d s)) :=
  exec_of_required_mode (i := .vbyte d) rfl hm

/-- A count is compared as a register or as a number, with the same outcome. -/
theorem count_eq_ofNat_iff {n : Nat} (hn : n < 2 ^ 9) (k : Count) : k = BitVec.ofNat 9 n ↔ k.toNat = n := by
  rw [BitVec.toNat_eq, BitVec.toNat_ofNat, Nat.mod_eq_of_lt hn]

/-- The word VBYTE answers: PAY of the byte two places old, once it is known to be payload (R61, R141 (b)). -/
theorem responseWord_byteResponse (s : State) :
    responseWord (byteResponse s) = if s.cnt.toNat ≥ 4 then 0x02#8 ++ s.h1 else 0x0000 :=
  apply_ite responseWord _ _ _

/-- Settles O28: in CHK the byte is taken in and answered, elsewhere the command is refused. -/
theorem vbyteTakesOneByte : Obligations.VbyteTakesOneByte := by
  refine fun d s => ⟨fun hm => ?_, exec_refused rfl⟩
  have h0 : s.cnt = 0 ↔ s.cnt.toNat = 0 := count_eq_ofNat_iff (by decide) s.cnt
  have h1 : s.cnt = 1 ↔ s.cnt.toNat = 1 := count_eq_ofNat_iff (by decide) s.cnt
  have h2 : s.cnt = 2 ↔ s.cnt.toNat = 2 := count_eq_ofNat_iff (by decide) s.cnt
  rw [exec_vbyte_chk d hm, ← responseWord_byteResponse]
  simp only [h0, h1, h2]
  rfl

/-! ### VEND (R142, R143) -/

/-- The received CRC field as R142 writes it, `(H0 << 8) | H1`. -/
theorem joinBytes_eq_shiftLeft_or (t1 t0 : Byte) : joinBytes t1 t0 = (t1.setWidth 16 <<< 8) ||| t0.setWidth 16 := by
  rw [joinBytes, BitVec.append_def, BitVec.shiftLeftZeroExtend_eq, BitVec.setWidth'_eq]

/-- FTYPE by the four flags: NONE where one is set, else by the exception bit of FCB (R18, R142). -/
theorem frameTypeOf_verdict (fs fl fc fa : Bool) (b : Byte) :
    frameTypeOf (verdict fs fl fc fa) b =
      if fs = true ∨ fl = true ∨ fc = true ∨ fa = true then .none else if b.getLsbD 7 = true then .exception else .request := by
  have hok : verdict fs fl fc fa ≠ .ok ↔ fs = true ∨ fl = true ∨ fc = true ∨ fa = true := by
    rw [ne_eq, verdict_eq_ok]
    simp only [← Bool.not_eq_true, not_and_or, not_not]
  simp only [frameTypeOf, hok]
  rfl

theorem frameShort_iff (s : State) : frameShort s = true ↔ s.cnt.toNat < 4 := flagShort_iff _

theorem frameLong_iff (s : State) : frameLong s = true ↔ s.cnt.toNat > 256 := flagLong_iff _

theorem frameCrc_iff (s : State) :
    frameCrc s = true ↔ s.cnt.toNat < 2 ∨ s.crc ≠ ((s.h0.setWidth 16 <<< 8) ||| s.h1.setWidth 16) := by
  rw [frameCrc, flagCrc_iff, joinBytes_eq_shiftLeft_or]

theorem frameAddr_iff (s : State) : frameAddr s = true ↔ s.cnt.toNat < 1 ∨ s.addr ≠ s.myAddr ∨ s.addr = 0x00 := flagAddr_iff _ _ _

/-- Settles O29: the four flags are the ones their formulas determine, and FTYPE and the answer follow from them; outside CHK the
command is refused. -/
theorem vendJudgesTheFrame : Obligations.VendJudgesTheFrame := by
  refine fun s => ⟨fun hm fs fl fc fa hfs hfl hfc hfa => ?_, exec_refused rfl⟩
  obtain rfl : frameShort s = fs := Bool.eq_iff_iff.2 ((frameShort_iff s).trans hfs.symm)
  obtain rfl : frameLong s = fl := Bool.eq_iff_iff.2 ((frameLong_iff s).trans hfl.symm)
  obtain rfl : frameCrc s = fc := Bool.eq_iff_iff.2 ((frameCrc_iff s).trans hfc.symm)
  obtain rfl : frameAddr s = fa := Bool.eq_iff_iff.2 ((frameAddr_iff s).trans hfa.symm)
  rw [exec_vend_chk hm, ← frameTypeOf_verdict, ← responseWord_verdict]
  rfl

end Sys2Proof.Machine
end

section
/-! PROOFS. The statements on the read commands (44_readout.md), and before them what a read does and answers, that a read's word
with a data byte is illegal, and that no command reads the words already answered. -/

namespace Sys2Proof.Machine

/-! ### What a read does and answers (R160 to R168) -/

/-- A read runs in every mode, and answers VAL over an unchanged state. -/
theorem exec_read {i : Instr} (h : isRead i = true) (s : State) :
    ∃ b, commandAnswer i s = .val b ∧ exec i s = .next (respond (.val b) s) := by
  cases i with
  | rdst | rdaddr | rdfc | rdexc | rdtyp | rdlen | rdcrl | rdcrh => exact ⟨_, rfl, rfl⟩
  | nop | clr | gbeg | gbyte | gexc | gcrl | gcrh | vbeg | vbyte | vend => exact nomatch h

theorem respond_val (b : Byte) (s : State) : respond (.val b) s = { s with responses := s.responses ++ [0x04#8 ++ b] } := rfl

/-- STATUS as R160 writes it, each flag shifted to its bit. -/
theorem statusByte_eq_shiftLeft_or (s : State) :
    statusByte s = ((modeCode s.mode).setWidth 8 <<< 6) ||| ((BitVec.ofBool s.eSeq).setWidth 8 <<< 5) |||
      ((BitVec.ofBool s.eIll).setWidth 8 <<< 4) ||| ((BitVec.ofBool s.fAddr).setWidth 8 <<< 3) |||
      ((BitVec.ofBool s.fCrc).setWidth 8 <<< 2) ||| ((BitVec.ofBool s.fLong).setWidth 8 <<< 1) |||
      (BitVec.ofBool s.fShort).setWidth 8 := by
  rw [← BitVec.setWidth_eq (statusByte s), statusByte]
  simp only [BitVec.setWidth_append_eq_shiftLeft_setWidth_or, BitVec.shiftLeft_or_distrib, ← BitVec.shiftLeft_add]

theorem exec_rdst (s : State) : exec .rdst s = .next (respond (.val (statusByte s)) s) := exec_of_mode_eq (.inl rfl)

theorem exec_rdtyp (s : State) : exec .rdtyp s = .next (respond (.val ((frameTypeCode s.ftype).setWidth 8)) s) :=
  exec_of_mode_eq (.inl rfl)

/-- Settles O30: six reads by the answer of a command that requires no mode, RDST with STATUS in the rules' own form, and RDTYP by
the four values of FTYPE. -/
theorem readCommandsReturnTheirRegister : Obligations.ReadCommandsReturnTheirRegister := by
  intro s
  refine ⟨?_, exec_of_mode_eq (i := .rdaddr) (.inl rfl), exec_of_mode_eq (i := .rdfc) (.inl rfl),
    exec_of_mode_eq (i := .rdexc) (.inl rfl), ?_, exec_of_mode_eq (i := .rdlen) (.inl rfl),
    exec_of_mode_eq (i := .rdcrl) (.inl rfl), exec_of_mode_eq (i := .rdcrh) (.inl rfl)⟩
  · rw [exec_rdst, respond_val, statusByte_eq_shiftLeft_or]
  · rw [exec_rdtyp, respond_val]
    cases s.ftype with
    | none | request | response | exception => rfl

/-! ### A read's word with a data byte (R64) -/

/-- A read's word is its opcode, one that takes no operand, and the data byte 0x00 (R62). -/
theorem encode_read {i : Instr} (h : isRead i = true) :
    ∃ op : Byte, opcodeTakesOperand op = false ∧ encode i = op ++ 0x00#8 := by
  cases i with
  | rdst | rdaddr | rdfc | rdexc | rdtyp | rdlen | rdcrl | rdcrh => exact ⟨_, by decide, rfl⟩
  | nop | clr | gbeg | gbyte | gexc | gcrl | gcrh | vbeg | vbyte | vend => exact nomatch h

/-- Putting a data byte into a word that has 0x00 in its place. -/
theorem append_zero_or_setWidth (op d : Byte) : (op ++ 0x00#8) ||| d.setWidth 16 = op ++ d := by
  have hd : d.setWidth 16 = 0x00#8 ++ d := BitVec.setWidth_eq_append (by decide)
  rw [hd, BitVec.or_append, BitVec.or_zero, BitVec.zero_or]

/-- A data byte is illegal after an opcode that takes none (R64 (b)). -/
theorem decode_nonzero_operand {op d : Byte} (hop : opcodeTakesOperand op = false) (hd : d ≠ 0x00) :
    ∃ e, decode (op ++ d) = .error e := by
  have hillegal : wordWellFormed (op ++ d) = false := by
    have hallowed : wordOperandAllowed (op ++ d) = (opcodeTakesOperand (hi (op ++ d)) || lo (op ++ d) == 0x00) := rfl
    rw [wordWellFormed, hallowed, hi_append, lo_append, hop, beq_false_of_ne hd, Bool.false_or, Bool.and_false]
  cases hdec : decode (op ++ d) with
  | error e => exact ⟨e, rfl⟩
  | ok i => exact absurd (wellFormed_of_decode_ok hdec) (Bool.not_eq_true _ ▸ hillegal)

/-- A read with a data byte raises ILL, its only error. -/
theorem step_read_nonzero_operand {i : Instr} (h : isRead i = true) {s : State} {d : Byte} {rest : List PortEvent} (hd : d ≠ 0x00)
    (hin : s.inputs = .command (encode i ||| d.setWidth 16) :: rest) :
    step s = .next { s with inputs := rest, eIll := true, responses := s.responses ++ [0x0F01] } := by
  obtain ⟨op, hop, henc⟩ := encode_read h
  obtain ⟨e, he⟩ := decode_nonzero_operand hop hd
  rw [henc, append_zero_or_setWidth] at hin
  exact step_illegal hin he

/-! ### The words already answered -/

/-- The state with other words already answered. -/
def withResponses (q : List Word) (s : State) : State := { s with responses := q }

/-- No command's effect reads what was answered before. -/
theorem commandEffect_withResponses (q : List Word) (i : Instr) (s : State) :
    commandEffect i (withResponses q s) = withResponses q (commandEffect i s) := by
  cases i <;> rfl

/-- No command's answer reads what was answered before. -/
theorem commandAnswer_withResponses (q : List Word) (i : Instr) (s : State) :
    commandAnswer i (withResponses q s) = commandAnswer i s := by
  cases i <;> rfl

theorem respond_eq_withResponses (a : Response) (s : State) : respond a s = withResponses (s.responses ++ [responseWord a]) s := rfl

/-- A command answers one word, and does the same whatever was answered before. -/
theorem exec_withResponses {i : Instr} {s t : State} (h : exec i s = .next t) :
    ∃ r, t.responses = s.responses ++ [r] ∧ ∀ q, exec i (withResponses q s) = .next (withResponses (q ++ [r]) t) := by
  rcases exec_cases h with ⟨m, hr, hm, rfl⟩ | ⟨hr, rfl⟩
  · exact ⟨_, raiseErr_responses .seq s, fun q => exec_of_mode_ne (s := withResponses q s) hr hm⟩
  · refine ⟨responseWord (commandAnswer i s), by simp, fun q => ?_⟩
    rw [exec_of_mode_eq (s := withResponses q s) hr, commandEffect_withResponses, commandAnswer_withResponses]
    rfl

/-- A fold does the same, and answers the same words, whatever was answered before. -/
theorem foldExec_withResponses {cs : List Instr} {s t : State} {rs : List Word} (h : foldExec cs s = .next t)
    (hrs : t.responses = s.responses ++ rs) (q : List Word) :
    foldExec cs (withResponses q s) = .next (withResponses (q ++ rs) t) := by
  induction cs generalizing s rs q with
  | nil =>
    cases h
    obtain rfl : rs = [] := by simpa using hrs
    rw [List.append_nil]
    rfl
  | cons i cs ih =>
    obtain ⟨u, hu⟩ := exec_total i s
    obtain ⟨r, hr, hwith⟩ := exec_withResponses hu
    rw [foldExec_cons hu] at h
    obtain ⟨t', rest, ht', hrest, -⟩ := foldExec_total cs u
    cases h.symm.trans ht'
    obtain rfl : rs = r :: rest := by simpa [hrest, hr] using hrs.symm
    rw [foldExec_cons (hwith q), ih h hrest, List.append_assoc, List.singleton_append]

/-! ### Reads inserted and repeated (R168) -/

/-- A read inserted in a fold adds its own word, and changes no other word and nothing else of the state after. -/
theorem foldExec_insert_read {i : Instr} (h : isRead i = true) {xs ys : List Instr} {s t u : State} {ry : List Word}
    (hxs : foldExec xs s = .next t) (hys : foldExec ys t = .next u) (hry : u.responses = t.responses ++ ry) :
    ∃ r, foldExec (xs ++ i :: ys) s = .next (withResponses (t.responses ++ r :: ry) u) := by
  obtain ⟨b, -, hread⟩ := exec_read h t
  refine ⟨responseWord (.val b), ?_⟩
  rw [foldExec_append hxs, foldExec_cons hread, respond_eq_withResponses, foldExec_withResponses hys hry, List.append_assoc,
    List.singleton_append]

/-- A read answers the same word again. -/
theorem foldExec_read_twice {i : Instr} (h : isRead i = true) (s : State) :
    ∃ r, foldExec [i, i] s = .next (withResponses (s.responses ++ [r, r]) s) := by
  obtain ⟨b, hb, hfirst⟩ := exec_read h s
  obtain ⟨c, hc, hsecond⟩ := exec_read h (respond (.val b) s)
  have hsame : Response.val c = .val b := by
    rw [← hc, ← hb, respond_eq_withResponses, commandAnswer_withResponses]
  rw [hsame] at hsecond
  refine ⟨responseWord (.val b), ?_⟩
  rw [foldExec_cons hfirst, foldExec_cons hsecond, foldExec, respond_eq_withResponses, respond_responses, List.append_assoc]
  rfl

/-- Settles O38: a read by what it does, its word with a data byte by R64, and the two runs by their folds. -/
theorem readsChangeNothing : Obligations.ReadsChangeNothing := by
  intro i h
  refine ⟨fun s => ?_, fun s d rest hd hin => step_read_nonzero_operand h hd hin, fun xs ys s => ?_, fun s => ?_⟩
  · obtain ⟨b, -, hread⟩ := exec_read h s
    exact ⟨b, hread⟩
  · obtain ⟨u, rx, hxs, hrx, hxlen⟩ := foldExec_total xs (present [] s)
    obtain ⟨t, ry, hys, hry, hylen⟩ := foldExec_total ys u
    obtain ⟨r, hinsert⟩ := foldExec_insert_read h hxs hys hry
    rw [hrx, present_responses] at hry hinsert
    refine ⟨t, rx, ry, r, ?_, hry, hxlen, hylen, ?_⟩
    · rw [runCommands_eq_foldExec, foldExec_append hxs, hys]
    · rw [runCommands_eq_foldExec, hinsert]
      rfl
  · obtain ⟨r, htwice⟩ := foldExec_read_twice h (present [] s)
    exact ⟨r, (runCommands_eq_foldExec _ s).trans htwice⟩

end Sys2Proof.Machine
end

section
/-! PROOFS. The statements on errors and verdicts (60_exceptions.md), and before them what RDST shows of the sticky flags, R64 and
R203 in the rules' own form, and the verdict by the conditions of R205. -/

namespace Sys2Proof.Machine

/-! ### What RDST shows of the sticky flags (R22) -/

/-- The data byte of a word stands in its eight low bits (R61). -/
theorem getLsbD_append_of_lt (a b : Byte) {k : Nat} (hk : k < 8) : (a ++ b : Word).getLsbD k = b.getLsbD k :=
  BitVec.getLsbD_append.trans (if_pos hk)

theorem statusByte_getLsbD_four (s : State) : (statusByte s).getLsbD 4 = s.eIll := by
  rw [statusByte_eq_shiftLeft_or]
  simp

theorem statusByte_getLsbD_five (s : State) : (statusByte s).getLsbD 5 = s.eSeq := by
  rw [statusByte_eq_shiftLeft_or]
  simp

/-- The word RDST answers shows E_ILL in its bit 4 and E_SEQ in its bit 5. -/
theorem exec_rdst_sticky (s : State) : ∃ (u : State) (r : Word), exec .rdst s = .next u ∧ u.responses = s.responses ++ [r] ∧
    r.getLsbD 4 = s.eIll ∧ r.getLsbD 5 = s.eSeq :=
  ⟨_, 0x04#8 ++ statusByte s, exec_rdst s, rfl, (getLsbD_append_of_lt _ _ (by decide)).trans (statusByte_getLsbD_four s),
    (getLsbD_append_of_lt _ _ (by decide)).trans (statusByte_getLsbD_five s)⟩

/-! ### The illegal words (R64, R202) -/

theorem hi_toNat (w : Word) : (hi w).toNat = w.toNat / 256 := by
  rw [hi, BitVec.extractLsb'_toNat, Nat.shiftRight_eq_div_pow]
  omega

theorem lo_toNat (w : Word) : (lo w).toNat = w.toNat % 256 := BitVec.extractLsb'_toNat ..

/-- The four ranges of R64 (a), on numbers. -/
theorem opcodeUnassigned_iff (op : Byte) : opcodeUnassigned op = true ↔ (0x02 ≤ op.toNat ∧ op.toNat ≤ 0x0F) ∨
    (0x15 ≤ op.toNat ∧ op.toNat ≤ 0x1F) ∨ (0x23 ≤ op.toNat ∧ op.toNat ≤ 0x2F) ∨ (0x38 ≤ op.toNat ∧ op.toNat ≤ 0xFF) := by
  have hbyte : op.toNat ≤ 0xFF := Nat.le_of_lt_succ op.isLt
  simp [opcodeUnassigned, BitVec.le_def, or_assoc, hbyte]

/-- The fifteen opcodes of R64 (b), on numbers. -/
theorem opcode_without_operand_iff : ∀ op : Byte, opcodeUnassigned op = false ∧ opcodeTakesOperand op = false ↔
    op.toNat ∈ [0x00, 0x01, 0x10, 0x13, 0x14, 0x20, 0x22, 0x30, 0x31, 0x32, 0x33, 0x34, 0x35, 0x36, 0x37] := by
  decide

/-- A word is not well formed when its opcode is unassigned, or is one without an operand and the data byte is not 0x00. -/
theorem not_wellFormed_iff (w : Word) : wordWellFormed w = false ↔ opcodeUnassigned (hi w) = true ∨
    ((opcodeUnassigned (hi w) = false ∧ opcodeTakesOperand (hi w) = false) ∧ lo w ≠ 0x00) := by
  have hsplit : wordWellFormed w = (!opcodeUnassigned (hi w) && (opcodeTakesOperand (hi w) || lo w == 0x00)) := rfl
  rw [hsplit]
  cases opcodeUnassigned (hi w) <;> simp

theorem decode_error_iff_not_wellFormed (w : Word) : (∃ e, decode w = .error e) ↔ wordWellFormed w = false := by
  rw [Bool.eq_false_iff, ne_eq, ← decode_ok_iff_wellFormed]
  cases decode w <;> simp

/-- The illegal words of R64, on numbers, are the ones that do not decode. -/
theorem illegal_iff_decode_error (w : Word) :
    ((0x02 ≤ w.toNat / 256 ∧ w.toNat / 256 ≤ 0x0F) ∨ (0x15 ≤ w.toNat / 256 ∧ w.toNat / 256 ≤ 0x1F) ∨
      (0x23 ≤ w.toNat / 256 ∧ w.toNat / 256 ≤ 0x2F) ∨ (0x38 ≤ w.toNat / 256 ∧ w.toNat / 256 ≤ 0xFF) ∨
      (w.toNat / 256 ∈ [0x00, 0x01, 0x10, 0x13, 0x14, 0x20, 0x22, 0x30, 0x31, 0x32, 0x33, 0x34, 0x35, 0x36, 0x37] ∧
        w.toNat % 256 ≠ 0)) ↔ ∃ e, decode w = .error e := by
  have hdata : lo w ≠ 0x00 ↔ w.toNat % 256 ≠ 0 := by
    rw [ne_eq, BitVec.toNat_eq, lo_toNat]
    rfl
  rw [decode_error_iff_not_wellFormed, not_wellFormed_iff, opcodeUnassigned_iff, opcode_without_operand_iff, hi_toNat, hdata]
  simp only [or_assoc]

/-- Settles O10: the illegal words are the ones that do not decode, and those raise ILL. -/
theorem illegalWordRaisesIll : Obligations.IllegalWordRaisesIll := by
  intro s w rest h
  rw [illegal_iff_decode_error]
  constructor
  · rintro ⟨e, hd⟩
    obtain ⟨u, r, hrdst, hresp, hIll, -⟩ :=
      exec_rdst_sticky { s with inputs := rest, eIll := true, responses := s.responses ++ [0x0F01] }
    exact ⟨step_illegal h hd, u, r, hrdst, hresp.trans (List.append_assoc ..), hIll⟩
  · intro hlegal
    cases hd : decode w with
    | error e => exact absurd ⟨e, hd⟩ hlegal
    | ok i => exact ⟨i, rfl, step_command h hd⟩

/-! ### The commands refused for their mode (R203) -/

theorem requiredMode_eq_gen (i : Instr) : requiredMode i = some .gen ↔ (∃ d, i = .gbyte d ∨ i = .gexc d) ∨ i = .gcrl := by
  cases i <;> simp [requiredMode]

theorem requiredMode_eq_gent (i : Instr) : requiredMode i = some .gent ↔ i = .gcrh := by
  cases i <;> simp [requiredMode]

theorem requiredMode_eq_chk (i : Instr) : requiredMode i = some .chk ↔ (∃ d, i = .vbyte d) ∨ i = .vend := by
  cases i <;> simp [requiredMode]

theorem requiredMode_ne_idle (i : Instr) : requiredMode i ≠ some .idle := by
  cases i <;> simp [requiredMode]

/-- The commands R203 lists as refused are the ones that require a mode other than the current one. -/
theorem wrongMode_iff (i : Instr) (s : State) :
    ((((∃ d, i = .gbyte d ∨ i = .gexc d) ∨ i = .gcrl) ∧ s.mode ≠ .gen) ∨ (i = .gcrh ∧ s.mode ≠ .gent) ∨
      (((∃ d, i = .vbyte d) ∨ i = .vend) ∧ s.mode ≠ .chk)) ↔ ∃ m, requiredMode i = some m ∧ s.mode ≠ m := by
  rw [← requiredMode_eq_gen, ← requiredMode_eq_gent, ← requiredMode_eq_chk]
  constructor
  · rintro (h | h | h) <;> exact ⟨_, h⟩
  · rintro ⟨m, hr, hm⟩
    cases m with
    | idle => exact absurd hr (requiredMode_ne_idle i)
    | gen => exact .inl ⟨hr, hm⟩
    | gent => exact .inr (.inl ⟨hr, hm⟩)
    | chk => exact .inr (.inr ⟨hr, hm⟩)

/-- Settles O11: a command in a mode it may not run in is refused, and any other executes without an error. -/
theorem commandInTheWrongModeRaisesSeq : Obligations.CommandInTheWrongModeRaisesSeq := by
  intro i s
  rw [wrongMode_iff]
  constructor
  · rintro ⟨m, hr, hm⟩
    obtain ⟨u, r, hrdst, hresp, -, hSeq⟩ :=
      exec_rdst_sticky { s with eSeq := true, responses := s.responses ++ [0x0F02] }
    exact ⟨exec_refused hr hm, u, r, hrdst, hresp.trans (List.append_assoc ..), hSeq⟩
  · intro hright
    obtain ⟨t, r, hexec, hresp, -, -, hexecuted⟩ := exec_refused_or_executed i s
    obtain ⟨hkind, -, hSeq⟩ := hexecuted ((mode_refuses_or_not i s).resolve_left hright)
    exact ⟨t, r, hexec, hSeq, hresp, hkind⟩

/-! ### The verdicts (R205) -/

/-- F_CRC with the expected CRC as the two bytes side by side, `H0 : H1` (R142). -/
theorem frameCrc_iff_append (s : State) : frameCrc s = true ↔ s.cnt.toNat < 2 ∨ s.crc ≠ s.h0 ++ s.h1 := flagCrc_iff _ _ _

/-- The verdict by the conditions of R205, each tested where the ones before it fail. -/
theorem frameVerdict_eq (s : State) : frameVerdict s =
    if s.cnt.toNat < 4 then .short else if 256 < s.cnt.toNat then .long else if s.crc ≠ s.h0 ++ s.h1 then .badcrc
    else if s.addr = 0x00 ∨ s.addr ≠ s.myAddr then .notme else .ok := by
  simp only [frameVerdict, verdict, frameShort_iff, frameLong_iff, frameCrc_iff_append, frameAddr_iff]
  by_cases hshort : s.cnt.toNat < 4
  · rw [if_pos hshort, if_pos hshort]
  · have hcrc : ¬ s.cnt.toNat < 2 := by omega
    have haddr : ¬ s.cnt.toNat < 1 := by omega
    simp only [hcrc, haddr, false_or, or_comm (a := s.addr = 0x00)]

/-- What a VEND in CHK answers and records of the frame's type when the verdict is `v`. -/
theorem exec_vend_of_verdict {s t : State} {v : Verdict} (hm : s.mode = .chk) (h : exec .vend s = .next t)
    (hv : frameVerdict s = v) :
    t.responses = s.responses ++ [responseWord (.verd v)] ∧ t.ftype = frameTypeOf v s.fcb := by
  cases (exec_vend_chk hm).symm.trans h
  rw [← hv]
  exact ⟨rfl, rfl⟩

/-- A verdict other than OK leaves FTYPE at NONE. -/
theorem exec_vend_of_verdict_ne_ok {s t : State} {v : Verdict} (hm : s.mode = .chk) (h : exec .vend s = .next t)
    (hv : frameVerdict s = v) (hne : v ≠ .ok) :
    t.responses = s.responses ++ [responseWord (.verd v)] ∧ t.ftype = .none := by
  obtain ⟨hresp, hft⟩ := exec_vend_of_verdict hm h hv
  exact ⟨hresp, hft.trans (frameTypeOf_ne_ok hne s.fcb)⟩

/-- An accepted frame is a request or an exception (R18). -/
theorem frameTypeOf_ok_cases (b : Byte) : frameTypeOf .ok b = .request ∨ frameTypeOf .ok b = .exception := by
  rw [frameTypeOf_ok]
  split
  · exact .inr rfl
  · exact .inl rfl

/-- Settles O34: the conditions of R205 determine the verdict, and the verdict what is answered and recorded. -/
theorem verdictsAndWhatTheyRecord : Obligations.VerdictsAndWhatTheyRecord := by
  intro s hm
  have hexec := exec_vend_chk hm
  refine ⟨_, hexec, rfl, rfl, rfl, rfl, rfl, frameCrc_iff_append s, frameAddr_iff s, ?ok, ?short, ?long, ?badcrc, ?notme⟩
  case ok =>
    rintro ⟨hmin, hmax, hcrc, haddr, hzero⟩
    have hv : frameVerdict s = .ok := by
      rw [frameVerdict_eq, if_neg hmin.not_gt, if_neg hmax.not_gt, if_neg (not_not.2 hcrc),
        if_neg (not_or.2 ⟨hzero, not_not.2 haddr⟩)]
    obtain ⟨hresp, hft⟩ := exec_vend_of_verdict hm hexec hv
    obtain ⟨hfs, hfl, hfc, hfa⟩ := (verdict_eq_ok ..).1 hv
    rw [hft]
    exact ⟨hresp, hfs, hfl, hfc, hfa, frameTypeOf_ok_cases s.fcb, payloadLength_toNat hmin hmax⟩
  case short =>
    intro hshort
    have hv : frameVerdict s = .short := by rw [frameVerdict_eq, if_pos hshort]
    obtain ⟨hresp, hft⟩ := exec_vend_of_verdict_ne_ok hm hexec hv nofun
    exact ⟨hresp, (frameShort_iff s).2 hshort, hft, payloadLength_eq_zero (.inl hshort)⟩
  case long =>
    intro hlong
    have hv : frameVerdict s = .long := by rw [frameVerdict_eq, if_neg (by omega), if_pos hlong]
    obtain ⟨hresp, hft⟩ := exec_vend_of_verdict_ne_ok hm hexec hv nofun
    exact ⟨hresp, (frameLong_iff s).2 hlong, hft, payloadLength_eq_zero (.inr hlong)⟩
  case badcrc =>
    rintro ⟨hmin, hmax, hcrc⟩
    have hv : frameVerdict s = .badcrc := by rw [frameVerdict_eq, if_neg hmin.not_gt, if_neg hmax.not_gt, if_pos hcrc]
    obtain ⟨hresp, hft⟩ := exec_vend_of_verdict_ne_ok hm hexec hv nofun
    exact ⟨hresp, (frameCrc_iff_append s).2 (.inr hcrc), hft, payloadLength_toNat hmin hmax⟩
  case notme =>
    rintro ⟨hmin, hmax, hcrc, haddr⟩
    have hv : frameVerdict s = .notme := by
      rw [frameVerdict_eq, if_neg hmin.not_gt, if_neg hmax.not_gt, if_neg (not_not.2 hcrc), if_pos haddr]
    have hfc : frameCrc s = false := by
      rw [Bool.eq_false_iff, ne_eq, frameCrc_iff_append]
      exact not_or.2 ⟨by omega, not_not.2 hcrc⟩
    obtain ⟨hresp, hft⟩ := exec_vend_of_verdict_ne_ok hm hexec hv nofun
    exact ⟨hresp, (frameAddr_iff s).2 (.inr haddr.symm), hfc, hft, payloadLength_toNat hmin hmax⟩

end Sys2Proof.Machine
end

section
/-! PROOFS. The statement on reset (70_reset_and_hazards.md), and before it that no other step clears a sticky flag. -/

namespace Sys2Proof.Machine

/-- Only a reset pulse clears a sticky flag (R230): an idle step leaves the flags alone, and a command word, illegal or not, at most
sets one. -/
theorem step_keeps_sticky_of_not_reset {s t : State} (hreset : ∀ rest, s.inputs ≠ .reset :: rest) (h : step s = .next t) :
    (s.eIll = true → t.eIll = true) ∧ (s.eSeq = true → t.eSeq = true) := by
  match hin : s.inputs with
  | [] =>
    cases (step_idle hin).symm.trans h
    exact ⟨id, id⟩
  | .reset :: rest => exact absurd hin (hreset rest)
  | .command w :: rest =>
    obtain ⟨u, hu, hill, hseq⟩ := step_command_sticky hin
    cases hu.symm.trans h
    refine ⟨fun hset => ?_, fun hset => hseq.2 (.inl hset)⟩
    rw [hill, hset, Bool.true_or]

/-- Settles O18: a pulse leaves `resetBlock`, and a flag that a step cleared shows that the step took a pulse. -/
theorem resetPulseRestoresEveryRegister : Obligations.ResetPulseRestoresEveryRegister := by
  refine ⟨fun s rest hin => step_reset hin, fun s t h hcleared => ?_⟩
  by_contra hnone
  obtain ⟨hill, hseq⟩ := step_keeps_sticky_of_not_reset (not_exists.1 hnone) h
  rcases hcleared with ⟨hset, hclear⟩ | ⟨hset, hclear⟩
  · exact Bool.false_ne_true (hclear.symm.trans (hill hset))
  · exact Bool.false_ne_true (hclear.symm.trans (hseq hset))

end Sys2Proof.Machine
end

section
/-! PROOFS. The statements on the encoding that need both directions of the decoder (30_encoding.md), and before them what a row's
command encodes to, and that a word selects one row or none. -/

namespace Sys2Proof.Machine

/-! ### Decoding and encoding undo each other (R60, R62) -/

/-- Settles O1: the row that a command's word selects builds that command from the word's data byte. -/
theorem decodeEncodeEveryCommand : Obligations.DecodeEncodeEveryCommand := fun i _ => decode_encode i

/-- The word of a row's command is the row's opcode, and then the data byte where the opcode takes one, else 0x00. -/
theorem encode_build {r : OpRow} (hr : r ∈ opcodeTable) (d : Byte) :
    encode (r.build d) = hi r.matchWord ++ (if opcodeTakesOperand (hi r.matchWord) then d else 0x00#8) := by
  revert r
  simp only [opcodeTable, List.forall_mem_cons]
  exact ⟨rfl, rfl, rfl, rfl, rfl, rfl, rfl, rfl, rfl, rfl, rfl, rfl, rfl, rfl, rfl, rfl, rfl, rfl, nofun⟩

/-- A row's command is built from a word that selects the row without dropping a bit of the word. -/
theorem encode_build_of_selects {r : OpRow} {w : Word} (hr : r ∈ opcodeTable) (hrw : r.selects w = true) :
    encode (r.build (operandField w)) = w := by
  obtain ⟨hop, hallowed⟩ := (selects_iff hr w).1 hrw
  have hdata : opcodeTakesOperand (hi w) = true ∨ lo w = 0x00 := by simpa [wordOperandAllowed, hi, lo] using hallowed
  rw [encode_build hr, hop, show operandField w = lo w from rfl]
  split
  · exact hi_append_lo w
  · next htakes =>
    have hzero : 0x00#8 = lo w := (hdata.resolve_left htakes).symm
    rw [hzero, hi_append_lo]

/-- Settles O2: a word that decodes selects a row, and the row's command encodes to that word. -/
theorem encodeDecodeEveryWord : Obligations.EncodeDecodeEveryWord := by
  intro w i hi
  obtain ⟨r, hr, hrw⟩ := (decode_ok_iff_selects w).1 ⟨i, hi⟩
  cases hi.symm.trans (decode_of_selects hr hrw)
  exact encode_build_of_selects hr hrw

/-! ### One row or none (R63) -/

/-- The rows that a word selects. -/
def selectedRows (w : Word) : List OpRow := opcodeTable.filter (fun r => r.selects w)

theorem mem_selectedRows {w : Word} {r : OpRow} : r ∈ selectedRows w ↔ r ∈ opcodeTable ∧ r.selects w = true := List.mem_filter

/-- No row stands twice in the map, and all that a word selects are one row. -/
theorem selectedRows_length_le_one (w : Word) : (selectedRows w).length ≤ 1 := by
  have hnodup : (selectedRows w).Nodup := (List.Nodup.of_map _ opcodeTable_opcodes_nodup).filter _
  match hrows : selectedRows w with
  | [] => exact Nat.zero_le 1
  | [_] => exact le_rfl
  | r :: q :: rest =>
    obtain ⟨hr, hrw⟩ := mem_selectedRows.1 (by rw [hrows]; exact List.mem_cons_self : r ∈ selectedRows w)
    obtain ⟨hq, hqw⟩ := mem_selectedRows.1 (by rw [hrows]; simp : q ∈ selectedRows w)
    rw [hrows, row_eq_of_selects hr hq hrw hqw] at hnodup
    simp at hnodup

theorem decode_ok_iff_length_pos (w : Word) : (∃ i, decode w = .ok i) ↔ 0 < (selectedRows w).length := by
  rw [decode_ok_iff_selects, List.length_pos_iff_exists_mem]
  simp only [mem_selectedRows]

/-- Settles O3: the selected rows are at most one, and a word decodes when there is any. -/
theorem everyWordSelectsAtMostOneRow : Obligations.EveryWordSelectsAtMostOneRow := by
  intro w
  have hle := selectedRows_length_le_one w
  refine ⟨hle, (decode_ok_iff_length_pos w).trans ⟨fun hpos => le_antisymm hle hpos, fun hone => ?_⟩⟩
  exact hone.symm ▸ Nat.one_pos

/-- Settles O5: a word that decodes is the word of its command; the two illegal ones select no row. -/
theorem decodedWordsFromTheMap : Obligations.DecodedWordsFromTheMap :=
  ⟨decode_encode .nop, decode_encode .clr, decode_encode (.gbyte 0x8F), decode_encode (.gexc 0x0F), decode_encode .gcrh,
    decode_encode (.vbyte 0xCC), decode_encode .vend, decode_encode .rdcrh, by decide, by decide⟩

end Sys2Proof.Machine
end

section
/-! PROOFS. The invariant of the registers (Sys2Proof/Safety.lean): which registers it reads, that a cleared frame has it, that the
intake of a byte and the judgement of a frame keep it, and so every step. -/

namespace Sys2Proof.Machine

/-! ### The words of the response port (R61) -/

theorem responseLegal_responseWord (r : Response) : responseLegal (responseWord r) = true := by
  cases r with
  | ack => rfl
  | wire d | pay d | val d => simp [responseLegal, responseKind, responseData]
  | verd v => cases v <;> rfl
  | err e => cases e <;> rfl

theorem responses_legal_respond {r : Response} {s : State} (h : ∀ w ∈ s.responses, responseLegal w = true) :
    ∀ w ∈ (respond r s).responses, responseLegal w = true := by
  rw [respond_responses]
  intro w hw
  rcases List.mem_append.1 hw with hold | hnew
  · exact h w hold
  · rw [List.mem_singleton.1 hnew]
    exact responseLegal_responseWord r

/-! ### What the invariant reads -/

/-- The registers of the received frame and the results are the same in both states, and so is the parameter: the states differ in
CRC, MODE, the sticky flags and the ports at most. -/
def SameFrame (s t : State) : Prop :=
  t = { s with crc := t.crc, mode := t.mode, eIll := t.eIll, eSeq := t.eSeq, inputs := t.inputs, responses := t.responses }

/-- The invariant does not read the sticky flags and the inputs, and reads CRC and MODE in CHK only. -/
theorem Inv.of_sameFrame {s t : State} (h : Inv s) (hsame : SameFrame s t)
    (hchk : t.mode = .chk → s.mode = .chk ∧ t.crc = s.crc) (hresp : ∀ r ∈ t.responses, responseLegal r = true) : Inv t := by
  rw [hsame]
  exact
    { h with
      checking := fun hm => h.checking (hchk hm).1
      crc_start := fun hm hcnt => (hchk hm).2.trans (h.crc_start (hchk hm).1 hcnt)
      responses_legal := hresp }

theorem Inv.after_inputs {s : State} (h : Inv s) (rest : List PortEvent) : Inv { s with inputs := rest } :=
  h.of_sameFrame rfl (fun hm => ⟨hm, rfl⟩) h.responses_legal

theorem Inv.after_respond {s : State} (h : Inv s) (r : Response) : Inv (respond r s) :=
  h.of_sameFrame rfl (fun hm => ⟨hm, rfl⟩) (responses_legal_respond h.responses_legal)

theorem Inv.after_raiseErr {s : State} (h : Inv s) (e : ErrCode) : Inv (raiseErr e s) := by
  refine Inv.after_respond (s := setSticky e s) ?_ _
  cases e <;> exact h.of_sameFrame rfl (fun hm => ⟨hm, rfl⟩) h.responses_legal

/-- A command that writes CRC and leaves MODE outside CHK keeps the invariant. -/
theorem Inv.of_mode_ne_chk {s : State} (h : Inv s) {m : Mode} (hm : m ≠ .chk) (c : Word) : Inv { s with crc := c, mode := m } :=
  h.of_sameFrame rfl (fun hchk => absurd hchk hm) h.responses_legal

/-! ### A cleared frame (R27, R112, R140) -/

/-- A state whose registers of the frame and results are cleared has the invariant, in every MODE. -/
theorem inv_clearFrame {s : State} (h : ∀ r ∈ s.responses, responseLegal r = true) : Inv (clearFrame s) := by
  constructor
  case responses_legal => exact h
  all_goals simp

theorem Inv.after_clearFrame {s : State} (h : Inv s) (m : Mode) : Inv (setMode m (clearFrame s)) :=
  inv_clearFrame (s := setMode m s) h.responses_legal

/-- Settles O40: the reset state is a cleared one. -/
theorem registerInvariantAtReset : Obligations.RegisterInvariantAtReset := inv_clearFrame (s := State.reset) nofun

theorem Inv.after_resetBlock {s : State} (h : Inv s) : Inv (resetBlock s) :=
  inv_clearFrame (s := resetBlock s) h.responses_legal

/-! ### The intake of a byte (R141) -/

theorem Inv.after_takeByte {s : State} (h : Inv s) (hm : s.mode = .chk) (d : Byte) : Inv (takeByte d s) := by
  obtain ⟨hft, hplen, hfs, hfl, hfc, hfa⟩ := h.checking hm
  have hle := h.cnt_le
  constructor <;> simp only [takeByte_crc, takeByte_h0, takeByte_h1, takeByte_cnt, takeByte_mode, takeByte_addr, takeByte_fcb,
    takeByte_b2, takeByte_ftype, takeByte_plen, takeByte_fShort, takeByte_fLong, takeByte_fCrc, takeByte_fAddr, takeByte_myAddr,
    takeByte_responses, countUp_toNat, hft, hplen, hfs, hfl, hfc, hfa]
  case cnt_le => omega
  case ftype_ne_response => exact nofun
  case plen_le => decide
  case plen_eq => simp
  case short_cnt => exact nofun
  case long_cnt => exact nofun
  case checking => simp
  case typed => exact fun hne => absurd rfl hne
  case cnt0 => omega
  case cnt_le_one =>
    intro hcnt
    have hzero : s.cnt.toNat = 0 := by omega
    rw [if_neg (by omega)]
    exact ⟨(h.cnt0 hzero).1, (h.cnt_le_one (by omega)).2⟩
  case cnt_le_two =>
    intro hcnt
    rw [if_neg (by omega)]
    exact h.cnt_le_two (by omega)
  case cnt1 => exact fun hcnt => if_pos (by omega)
  case cnt2 =>
    intro hcnt
    have hone : s.cnt.toNat = 1 := by omega
    rw [if_neg (by omega), if_pos hone]
    exact ⟨h.cnt1 hone, rfl⟩
  case cnt3 =>
    intro hcnt
    have htwo : s.cnt.toNat = 2 := by omega
    rw [if_neg (by omega), if_pos htwo]
    exact ⟨(h.cnt2 htwo).2, rfl⟩
  case cnt4 =>
    intro hcnt
    rw [if_neg (by omega)]
    exact (h.cnt3 (by omega)).2
  case crc_start =>
    intro _ hcnt
    rw [if_neg (by omega)]
    exact h.crc_start hm (by omega)
  case responses_legal => exact h.responses_legal

/-! ### The judgement of a frame (R142) -/

/-- PLEN is 0, or the length less the four bytes of the envelope and at most 252 (R19). -/
theorem payloadLength_cases (n : Nat) :
    payloadLength n = 0 ∨ (4 ≤ n ∧ n ≤ 256 ∧ (payloadLength n).toNat + 4 = n) := by
  by_cases hn : 4 ≤ n ∧ n ≤ 256
  · obtain ⟨hmin, hmax⟩ := hn
    exact .inr ⟨hmin, hmax, by rw [payloadLength_toNat hmin hmax]; omega⟩
  · exact .inl (payloadLength_eq_zero (by omega))

/-- A frame that is given a type passed every check, and its type is its exception bit (R18). -/
theorem frameVerdict_ok_of_typed {s : State} (h : frameTypeOf (frameVerdict s) s.fcb ≠ .none) :
    frameVerdict s = .ok ∧ (frameTypeOf (frameVerdict s) s.fcb = .exception ↔ s.fcb.getLsbD 7 = true) := by
  have hok : frameVerdict s = .ok := by
    by_contra hne
    exact h (frameTypeOf_ne_ok hne s.fcb)
  refine ⟨hok, ?_⟩
  rw [hok, frameTypeOf_ok]
  cases s.fcb.getLsbD 7 <;> simp

/-- What the verdict OK says of the frame (R143). -/
theorem conditions_of_frameVerdict_ok {s : State} (h : frameVerdict s = .ok) :
    4 ≤ s.cnt.toNat ∧ s.cnt.toNat ≤ 256 ∧ s.addr = s.myAddr ∧ s.addr ≠ 0x00 := by
  obtain ⟨hfs, hfl, -, hfa⟩ := (verdict_eq_ok ..).1 h
  have hmin : ¬ s.cnt.toNat < 4 := mt (frameShort_iff s).2 (by simp [hfs])
  have hmax : ¬ s.cnt.toNat > 256 := mt (frameLong_iff s).2 (by simp [hfl])
  have haddr := mt (frameAddr_iff s).2 (by simp [hfa])
  simp only [not_or, not_not] at haddr
  obtain ⟨-, hmine, hnonzero⟩ := haddr
  exact ⟨not_lt.1 hmin, not_lt.1 hmax, hmine, hnonzero⟩

theorem Inv.after_recordVerdict {s : State} (h : Inv s) : Inv (setMode .idle (recordVerdict s)) := by
  have hle := h.cnt_le
  have hplen := payloadLength_cases s.cnt.toNat
  exact
    { h with
      ftype_ne_response := frameTypeOf_ne_response _ _
      plen_le := by
        show (payloadLength s.cnt.toNat).toNat ≤ 252
        rcases hplen with hzero | ⟨-, hmax, heq⟩
        · rw [hzero]
          decide
        · omega
      plen_eq := hplen.imp_right fun ⟨_, _, heq⟩ => heq
      short_cnt := (frameShort_iff s).1
      long_cnt := fun hlong => le_antisymm hle ((frameLong_iff s).1 hlong)
      checking := nofun
      typed := fun htyped => by
        obtain ⟨hok, htype⟩ := frameVerdict_ok_of_typed htyped
        obtain ⟨hfs, hfl, hfc, hfa⟩ := (verdict_eq_ok ..).1 hok
        obtain ⟨hmin, hmax, hmine, hnonzero⟩ := conditions_of_frameVerdict_ok hok
        have hlen : (payloadLength s.cnt.toNat).toNat + 4 = s.cnt.toNat := by
          rw [payloadLength_toNat hmin hmax, Nat.sub_add_cancel hmin]
        exact ⟨hfs, hfl, hfc, hfa, hmin, hmax, hmine, hnonzero, hlen, htype⟩
      crc_start := nofun }

/-! ### Every command and every step -/

/-- A command that may run, and requires a mode, is in that mode. -/
theorem mode_eq_of_mayRun {i : Instr} {m : Mode} {s : State} (h : requiredMode i = some m)
    (hrun : requiredMode i = none ∨ requiredMode i = some s.mode) : s.mode = m := by
  by_contra hm
  exact not_mayRun_of_mode_ne h hm hrun

theorem Inv.after_commandEffect {i : Instr} {s : State} (h : Inv s) (hrun : requiredMode i = none ∨ requiredMode i = some s.mode) :
    Inv (commandEffect i s) := by
  cases i with
  | nop | rdst | rdaddr | rdfc | rdexc | rdtyp | rdlen | rdcrl | rdcrh => exact h
  | clr => exact h.after_clearFrame .idle
  | vbeg => exact h.after_clearFrame .chk
  | gbeg => exact h.of_mode_ne_chk (m := .gen) nofun _
  | gcrl => exact h.of_mode_ne_chk (m := .gent) nofun _
  | gcrh => exact h.of_mode_ne_chk (m := .idle) nofun _
  | gbyte | gexc =>
    have hm : s.mode = .gen := mode_eq_of_mayRun rfl hrun
    exact h.of_mode_ne_chk (m := s.mode) (by rw [hm]; nofun) _
  | vbyte d => exact h.after_takeByte (mode_eq_of_mayRun rfl hrun) d
  | vend => exact h.after_recordVerdict

theorem Inv.after_exec {i : Instr} {s t : State} (h : Inv s) (hexec : exec i s = .next t) : Inv t := by
  rcases exec_cases hexec with ⟨m, -, -, rfl⟩ | ⟨hrun, rfl⟩
  · exact h.after_raiseErr .seq
  · exact (h.after_commandEffect hrun).after_respond _

/-- Settles O41, by what stands at the ports: nothing, a reset pulse, an illegal word, a command. -/
theorem stepKeepsTheRegisterInvariant : Obligations.StepKeepsTheRegisterInvariant := by
  intro s t h hstep
  rcases step_cases hstep with ⟨-, rfl⟩ | ⟨rest, -, rfl⟩ | ⟨w, rest, e, -, -, rfl⟩ | ⟨w, rest, i, -, -, hexec⟩
  · exact h
  · exact (h.after_inputs rest).after_resetBlock
  · exact (h.after_inputs rest).after_raiseErr .ill
  · exact (h.after_inputs rest).after_exec hexec

end Sys2Proof.Machine
end

section
/-! PROOFS. The statement on the assembler (30_encoding.md section 7), and before it the facts it rests on: how a line is cut into
words, that two hexadecimal digits give their byte back, and which command a mnemonic names. -/

namespace Sys2Proof.Machine

/-! ### The words of a line (R72) -/

/-- A character that stands inside a word: it is no blank and begins no comment. -/
def isWordChar (c : Char) : Bool := c != ';' && c != ' ' && c != '\t'

/-- What may stand after the last word of a line: nothing, or a comment. -/
def LineEnd (rest : List Char) : Prop := rest = [] ∨ ∃ comment, rest = ';' :: comment

theorem lineWords_wordChar {c : Char} (hc : isWordChar c = true) (word rest : List Char) :
    lineWords word (c :: rest) = lineWords (word ++ [c]) rest := by
  simp only [isWordChar, Bool.and_eq_true, bne_iff_ne, ne_eq] at hc
  obtain ⟨⟨hsemi, hblank⟩, htab⟩ := hc
  rw [lineWords, if_neg hsemi, if_neg (not_or.2 ⟨hblank, htab⟩)]

/-- The characters of a word are read into it. -/
theorem lineWords_append {xs : List Char} (hxs : ∀ c ∈ xs, isWordChar c = true) (word rest : List Char) :
    lineWords word (xs ++ rest) = lineWords (word ++ xs) rest := by
  induction xs generalizing word with
  | nil => simp
  | cons x xs ih =>
    obtain ⟨hx, htail⟩ := List.forall_mem_cons.1 hxs
    rw [List.cons_append, lineWords_wordChar hx, ih htail, List.append_assoc, List.singleton_append]

theorem lineWords_lineEnd {word rest : List Char} (hword : word ≠ []) (hend : LineEnd rest) : lineWords word rest = [word] := by
  rcases hend with rfl | ⟨comment, rfl⟩ <;> simp [lineWords, hword]

theorem lineWords_blank {word : List Char} (hword : word ≠ []) (rest : List Char) :
    lineWords word (' ' :: rest) = word :: lineWords [] rest := by
  simp [lineWords, hword]

/-- A line of one word. -/
theorem lineWords_of_name {name rest : List Char} (hname : ∀ c ∈ name, isWordChar c = true) (hne : name ≠ [])
    (hend : LineEnd rest) : lineWords [] (name ++ rest) = [name] := by
  rw [lineWords_append hname, List.nil_append, lineWords_lineEnd hne hend]

/-- A line of two words with a blank between. -/
theorem lineWords_of_name_operand {name operand rest : List Char} (hname : ∀ c ∈ name, isWordChar c = true) (hne : name ≠ [])
    (hoperand : ∀ c ∈ operand, isWordChar c = true) (hoperand_ne : operand ≠ []) (hend : LineEnd rest) :
    lineWords [] (name ++ ' ' :: operand ++ rest) = [name, operand] := by
  rw [List.append_assoc, List.cons_append, lineWords_append hname, List.nil_append, lineWords_blank hne,
    lineWords_of_name hoperand hoperand_ne hend]

/-! ### Hexadecimal digits (R72) -/

theorem hexDigit_hexChar : ∀ n < 16, hexDigit (hexChar n) = some n := by decide

theorem isWordChar_hexChar : ∀ n < 16, isWordChar (hexChar n) = true := by decide

theorem toNat_div_lt (d : Byte) : d.toNat / 16 < 16 := by omega

theorem isWordChar_hexChars (d : Byte) : ∀ c ∈ hexChars d, isWordChar c = true := by
  simp only [hexChars, List.forall_mem_cons]
  exact ⟨isWordChar_hexChar _ (toNat_div_lt d), isWordChar_hexChar _ (Nat.mod_lt _ (by decide)), nofun⟩

/-- A byte from its two halves. -/
theorem ofNat_halves (d : Byte) : BitVec.ofNat 8 (16 * (d.toNat / 16) + d.toNat % 16) = d := by
  rw [Nat.div_add_mod, BitVec.ofNat_toNat, BitVec.setWidth_eq]

theorem hexByte_hexChars (d : Byte) : hexByte (hexChars d) = some d := by
  rw [hexChars, hexByte, hexDigit_hexChar _ (toNat_div_lt d), hexDigit_hexChar _ (Nat.mod_lt _ (by decide))]
  exact congrArg some (ofNat_halves d)

theorem hexByte_zero_x_hexChars (d : Byte) : hexByte ('0' :: 'x' :: hexChars d) = some d := by
  rw [hexChars, hexByte, hexDigit_hexChar _ (toNat_div_lt d), hexDigit_hexChar _ (Nat.mod_lt _ (by decide))]
  exact congrArg some (ofNat_halves d)

/-! ### The command of a line (R72) -/

theorem isWordChar_mnemonicChars (i : Instr) : ∀ c ∈ mnemonicChars i, isWordChar c = true := by
  rw [← List.all_eq_true]
  cases i <;> rfl

theorem mnemonicChars_ne_nil (i : Instr) : mnemonicChars i ≠ [] := by
  cases i <;> exact List.cons_ne_nil _ _

/-- The mnemonic of a command without an operand names it. -/
theorem commandOfWords_plain : ∀ i ∈ plainCommands, commandOfWords (mnemonicChars i) [] = .ok i := by decide

/-- The mnemonic of a command with an operand and the text of a byte name it. -/
theorem commandOfWords_operand {text : List Char} {d : Byte} (htext : hexByte text = some d) :
    ∀ f ∈ operandCommands, commandOfWords (mnemonicChars (f d)) [text] = .ok (f d) := by
  have hname : ∀ f ∈ operandCommands, commandOfWords (mnemonicChars (f d)) [text] =
      match hexByte text with
      | some b => .ok (f b)
      | none => .error .badOperand := by
    simp only [operandCommands, List.forall_mem_cons]
    exact ⟨rfl, rfl, rfl, nofun⟩
  intro f hf
  rw [hname f hf, htext]

theorem assembleLine_plain {i : Instr} (hi : i ∈ plainCommands) {rest : List Char} (hend : LineEnd rest) :
    assembleLine (mnemonicChars i ++ rest) = .ok (some i) := by
  rw [assembleLine, lineWords_of_name (isWordChar_mnemonicChars i) (mnemonicChars_ne_nil i) hend]
  simp only [commandOfWords_plain i hi]

/-- A line with an operand, whichever way its byte is written. -/
theorem assembleLine_operand {f : Byte → Instr} (hf : f ∈ operandCommands) {text rest : List Char} {d : Byte}
    (hchars : ∀ c ∈ text, isWordChar c = true) (htext : hexByte text = some d) (hend : LineEnd rest) :
    assembleLine (mnemonicChars (f d) ++ ' ' :: text ++ rest) = .ok (some (f d)) := by
  have hne : text ≠ [] := by
    rintro rfl
    exact nomatch htext
  rw [assembleLine, lineWords_of_name_operand (isWordChar_mnemonicChars _) (mnemonicChars_ne_nil _) hchars hne hend]
  simp only [commandOfWords_operand htext f hf]

/-- A command's line is its mnemonic, and then a blank and its data byte where it has one. -/
theorem assemblyLine_cases (i : Instr) : (i ∈ plainCommands ∧ assemblyLine i = mnemonicChars i) ∨
    ∃ f ∈ operandCommands, ∃ d, i = f d ∧ assemblyLine i = mnemonicChars (f d) ++ ' ' :: hexChars d := by
  cases i with
  | gbyte d => exact .inr ⟨.gbyte, by simp [operandCommands], d, rfl, rfl⟩
  | gexc d => exact .inr ⟨.gexc, by simp [operandCommands], d, rfl, rfl⟩
  | vbyte d => exact .inr ⟨.vbyte, by simp [operandCommands], d, rfl, rfl⟩
  | nop | clr | gbeg | gcrl | gcrh | vbeg | vend | rdst | rdaddr | rdfc | rdexc | rdtyp | rdlen | rdcrl | rdcrh =>
    exact .inl ⟨by decide, rfl⟩

/-- The line of a command, alone or with a comment after it, assembles to the command. -/
theorem assembleLine_assemblyLine (i : Instr) {rest : List Char} (hend : LineEnd rest) :
    assembleLine (assemblyLine i ++ rest) = .ok (some i) := by
  rcases assemblyLine_cases i with ⟨hi, hline⟩ | ⟨f, hf, d, rfl, hline⟩
  · rw [hline]
    exact assembleLine_plain hi hend
  · rw [hline]
    exact assembleLine_operand hf (isWordChar_hexChars d) (hexByte_hexChars d) hend

/-- The same for the digits with 0x before them. -/
theorem assembleLine_zero_x {f : Byte → Instr} (hf : f ∈ operandCommands) (d : Byte) :
    assembleLine (mnemonicChars (f d) ++ ' ' :: '0' :: 'x' :: hexChars d) = .ok (some (f d)) := by
  have hchars : ∀ c ∈ '0' :: 'x' :: hexChars d, isWordChar c = true :=
    List.forall_mem_cons.2 ⟨by decide, List.forall_mem_cons.2 ⟨by decide, isWordChar_hexChars d⟩⟩
  have hline := assembleLine_operand hf hchars (hexByte_zero_x_hexChars d) (.inl rfl)
  rwa [List.append_nil] at hline

/-- Settles O6: a line is cut into the mnemonic and the operand text, and these name the command. -/
theorem assemblerLineGivesItsCommand : Obligations.AssemblerLineGivesItsCommand := by
  refine ⟨fun i comment => ⟨?_, assembleLine_assemblyLine i (.inr ⟨comment, rfl⟩)⟩, fun d => ⟨?_, ?_, ?_⟩⟩
  · have hline := assembleLine_assemblyLine i (.inl rfl)
    rwa [List.append_nil] at hline
  · exact assembleLine_zero_x (f := .gbyte) (by simp [operandCommands]) d
  · exact assembleLine_zero_x (f := .gexc) (by simp [operandCommands]) d
  · exact assembleLine_zero_x (f := .vbyte) (by simp [operandCommands]) d

end Sys2Proof.Machine
end

section
/-! PROOFS. The statements on what every step and every command does (41_control.md, 10_state.md sections 1 and 7, 42_generate.md
section 6, 60_exceptions.md): that a step always has a next state, which registers a command writes, and what the generate commands
read. -/

namespace Sys2Proof.Machine

/-! ### Steps and runs (R110, R215, R216) -/

/-- The word of a row is the word that the next step takes. -/
theorem tableWord_toNat (w : Word) : tableWord 16 w.toNat = w := by
  rw [tableWord, Nat.mod_eq_of_lt w.isLt, BitVec.ofNat_toNat, BitVec.setWidth_eq]

/-- Settles O8: a presented word is decoded and executed, also one placed by `withFetchWord`. -/
theorem stepRunsTheDecodedCommand : Obligations.StepRunsTheDecodedCommand := by
  refine ⟨fun s w rest i hin hd => step_command hin hd, fun s w i hd => ?_⟩
  rw [State.withFetchWord, tableWord_toNat, step_command (presentWord_inputs w s) hd]
  rfl

/-- Settles O9, by induction on the number of steps. -/
theorem idleBlockKeepsItsState : Obligations.IdleBlockKeepsItsState := by
  intro s n hin
  induction n with
  | zero => rfl
  | succ n ih => rw [run_succ (step_idle hin), ih]

/-- A step always has a next state. -/
theorem step_total (s : State) : ∃ t, step s = .next t := by
  match hin : s.inputs with
  | [] => exact ⟨_, step_idle hin⟩
  | .reset :: rest => exact ⟨_, step_reset hin⟩
  | .command w :: rest =>
    obtain ⟨t, ht, -⟩ := step_command_sticky hin
    exact ⟨t, ht⟩

theorem neverStops (s : State) : NeverStops s := by
  intro n
  induction n generalizing s with
  | zero => exact ⟨s, rfl⟩
  | succ n ih =>
    obtain ⟨t, ht⟩ := step_total s
    rw [run_succ ht]
    exact ih t

/-- Settles O14: a run goes on because every step does, and CLR clears what reset clears but for the sticky flags. -/
theorem noInputStopsTheBlock : Obligations.NoInputStopsTheBlock := by
  refine fun s => ⟨neverStops s, _, ?_, rfl⟩
  rw [runCommands_eq_foldExec, foldExec_cons (exec_clr _)]
  rfl

/-- Settles O39: CLR clears the frame and goes to IDLE, VBEG clears the frame and goes to CHK. -/
theorem clrAndVbegAgainstReset : Obligations.ClrAndVbegAgainstReset := by
  refine fun s => ⟨_, exec_clr s, rfl, ?_⟩
  rw [exec_vbeg]
  rfl

/-! ### No frame is accepted at address 0 (R6) -/

theorem responseWord_eq_ok_iff (a : Response) : responseWord a = 0x0301 ↔ a = .verd .ok := by
  constructor
  · intro h
    have hkind : responseKind a = 0x03 := by rw [← hi_responseWord, h]; rfl
    obtain ⟨v, rfl⟩ := responseKind_eq_verd.1 hkind
    rw [(responseWord_verd_eq_ok v).1 h]
  · rintro rfl
    rfl

/-- Only VEND answers a verdict, the one of the frame it ends. -/
theorem commandAnswer_eq_verd {i : Instr} {s : State} {v : Verdict} (h : commandAnswer i s = .verd v) : frameVerdict s = v := by
  cases i with
  | vend => exact Response.verd.inj h
  | vbyte d =>
    have hans := commandAnswer_answers (.vbyte d) s
    rw [h] at hans
    exact nomatch hans
  | nop | clr | gbeg | gbyte | gexc | gcrl | gcrh | vbeg | rdst | rdaddr | rdfc | rdexc | rdtyp | rdlen | rdcrl | rdcrh =>
    exact nomatch h

/-- At address 0 every frame has F_ADDR set: its address is another station's, or 0. -/
theorem frameVerdict_ne_ok_of_myAddr_zero {s : State} (h : s.myAddr = 0x00) : frameVerdict s ≠ .ok := by
  intro hok
  obtain ⟨-, -, -, hfa⟩ := (verdict_eq_ok ..).1 hok
  have hset : frameAddr s = true := (frameAddr_iff s).2 (.inr (by rw [h]; exact (em _).symm))
  exact Bool.false_ne_true (hfa.symm.trans hset)

/-- A step at address 0 adds no OK word. -/
theorem step_responses_of_myAddr_zero {s t : State} (hmy : s.myAddr = 0x00) (h : step s = .next t) :
    ∃ rs, t.responses = s.responses ++ rs ∧ 0x0301 ∉ rs := by
  have hne : ∀ a : Response, a ≠ .verd .ok → 0x0301 ∉ [responseWord a] := by
    intro a ha hmem
    exact ha ((responseWord_eq_ok_iff a).1 (List.mem_singleton.1 hmem).symm)
  rcases step_cases h with ⟨-, rfl⟩ | ⟨rest, -, rfl⟩ | ⟨w, rest, e, -, -, rfl⟩ | ⟨w, rest, i, -, -, hexec⟩
  · exact ⟨[], by simp, by simp⟩
  · exact ⟨[], by simp, by simp⟩
  · exact ⟨_, raiseErr_responses .ill _, hne _ nofun⟩
  · rcases exec_cases hexec with ⟨m, -, -, rfl⟩ | ⟨-, rfl⟩
    · exact ⟨_, raiseErr_responses .seq _, hne _ nofun⟩
    · refine ⟨[responseWord (commandAnswer i { s with inputs := rest })], by simp, hne _ fun hok => ?_⟩
      exact frameVerdict_ne_ok_of_myAddr_zero (s := { s with inputs := rest }) hmy (commandAnswer_eq_verd hok)

/-- The block is at address 0, and has answered no OK word after the words `ws`. -/
def NoOkAfter (ws : List Word) (t : State) : Prop :=
  t.myAddr = 0x00 ∧ ∃ rs, t.responses = ws ++ rs ∧ 0x0301 ∉ rs

theorem step_noOkAfter {ws : List Word} {s t : State} (h : NoOkAfter ws s) (hstep : step s = .next t) : NoOkAfter ws t := by
  obtain ⟨hmy, rs, hrs, hold⟩ := h
  obtain ⟨qs, hqs, hnew⟩ := step_responses_of_myAddr_zero hmy hstep
  refine ⟨(step_myAddr hstep).trans hmy, rs ++ qs, ?_, List.mem_append.not.2 (not_or.2 ⟨hold, hnew⟩)⟩
  rw [hqs, hrs, List.append_assoc]

/-- Settles O35: MYADDR stays 0, and each step at address 0 adds no OK word. -/
theorem addressZeroAcceptsNothing : Obligations.AddressZeroAcceptsNothing := by
  intro s hmy n t h
  have hstart : NoOkAfter s.responses s := ⟨hmy, [], (List.append_nil _).symm, List.not_mem_nil⟩
  obtain ⟨-, hanswered⟩ := run_keeps (fun _ _ => step_noOkAfter) n hstart h
  exact hanswered

/-! ### Which command writes which register (10_state.md section 1) -/

theorem commandEffect_crc {i : Instr} {s : State} (h : (commandEffect i s).crc ≠ s.crc) :
    i = .clr ∨ i = .gbeg ∨ i = .vbeg ∨ ∃ d, i = .gbyte d ∨ i = .gexc d ∨ i = .vbyte d := by
  cases i with
  | clr | gbeg | vbeg | gbyte | gexc | vbyte => simp
  | nop | gcrl | gcrh | vend | rdst | rdaddr | rdfc | rdexc | rdtyp | rdlen | rdcrl | rdcrh => exact absurd rfl h

/-- The delay line, the count and the captures are written by CLR, VBEG and VBYTE. -/
theorem commandEffect_captures {i : Instr} {s : State} (h : (commandEffect i s).h0 ≠ s.h0 ∨ (commandEffect i s).h1 ≠ s.h1 ∨
      (commandEffect i s).cnt ≠ s.cnt ∨ (commandEffect i s).addr ≠ s.addr ∨ (commandEffect i s).fcb ≠ s.fcb ∨
      (commandEffect i s).b2 ≠ s.b2) : i = .clr ∨ i = .vbeg ∨ ∃ d, i = .vbyte d := by
  cases i with
  | clr | vbeg | vbyte => simp
  | nop | gbeg | gbyte | gexc | gcrl | gcrh | vend | rdst | rdaddr | rdfc | rdexc | rdtyp | rdlen | rdcrl | rdcrh =>
    simp [commandEffect] at h

theorem commandEffect_mode_ne {i : Instr} {s : State} (h : (commandEffect i s).mode ≠ s.mode) :
    i = .clr ∨ i = .gbeg ∨ i = .gcrl ∨ i = .gcrh ∨ i = .vbeg ∨ i = .vend := by
  cases i with
  | clr | gbeg | gcrl | gcrh | vbeg | vend => simp
  | nop | gbyte | gexc | vbyte | rdst | rdaddr | rdfc | rdexc | rdtyp | rdlen | rdcrl | rdcrh => exact absurd rfl h

/-- The results are written by CLR, VBEG and VEND. -/
theorem commandEffect_results {i : Instr} {s : State} (h : (commandEffect i s).ftype ≠ s.ftype ∨
      (commandEffect i s).plen ≠ s.plen ∨ (commandEffect i s).fShort ≠ s.fShort ∨ (commandEffect i s).fLong ≠ s.fLong ∨
      (commandEffect i s).fCrc ≠ s.fCrc ∨ (commandEffect i s).fAddr ≠ s.fAddr) : i = .clr ∨ i = .vbeg ∨ i = .vend := by
  cases i with
  | clr | vbeg | vend => simp
  | nop | gbeg | gbyte | gexc | gcrl | gcrh | vbyte | rdst | rdaddr | rdfc | rdexc | rdtyp | rdlen | rdcrl | rdcrh =>
    simp [commandEffect] at h

theorem exec_eSeq_ne {i : Instr} {s t : State} (h : exec i s = .next t) (hne : t.eSeq ≠ s.eSeq) :
    ∃ m, requiredMode i = some m ∧ s.mode ≠ m := by
  by_contra hnone
  have hiff := exec_eSeq_iff h
  simp only [hnone, or_false] at hiff
  exact hne (Bool.eq_iff_iff.2 hiff)

/-- Settles O36: a refused command writes E_SEQ alone, and any other writes a register only where its effect is a listed one. -/
theorem onlyListedCommandsWriteARegister : Obligations.OnlyListedCommandsWriteARegister := by
  intro s t i h
  have hseq := exec_eSeq_ne h
  rcases exec_cases h with ⟨m, -, -, rfl⟩ | ⟨hrun, rfl⟩
  · exact ⟨fun hne => absurd rfl hne, by simp, fun hne => absurd rfl hne, by simp, hseq, rfl, rfl, rfl⟩
  · refine ⟨commandEffect_crc, fun hne => ?_, commandEffect_mode_ne, fun hne => ?_, hseq, by simp, by simp, by simp⟩
    · rcases commandEffect_captures hne with hclr | hvbeg | ⟨d, rfl⟩
      · exact .inl hclr
      · exact .inr (.inl hvbeg)
      · exact .inr (.inr ⟨mode_eq_of_mayRun rfl hrun, d, rfl⟩)
    · rcases commandEffect_results hne with hclr | hvbeg | rfl
      · exact .inl hclr
      · exact .inr (.inl hvbeg)
      · exact .inr (.inr ⟨mode_eq_of_mayRun rfl hrun, rfl⟩)

/-! ### What the generate commands read and write (42_generate.md section 6) -/

/-- The answer of a generate command reads CRC alone. -/
theorem commandAnswer_of_generate {i : Instr} (hi : isGenerate i = true) {s u : State} (hcrc : u.crc = s.crc) :
    commandAnswer i u = commandAnswer i s := by
  cases i with
  | gbeg | gbyte | gexc => rfl
  | gcrl | gcrh => simp only [commandAnswer, hcrc]
  | nop | clr | vbeg | vbyte | vend | rdst | rdaddr | rdfc | rdexc | rdtyp | rdlen | rdcrl | rdcrh => exact nomatch hi

/-- The effect of a generate command reads and writes CRC and MODE alone. -/
theorem commandEffect_of_generate {i : Instr} (hi : isGenerate i = true) {s u : State} (hcrc : u.crc = s.crc)
    (hmode : u.mode = s.mode) :
    commandEffect i u = { u with crc := (commandEffect i s).crc, mode := (commandEffect i s).mode } := by
  cases i with
  | gbeg => rfl
  | gbyte | gexc | gcrl | gcrh =>
    simp only [commandEffect, absorb_crc, absorb_mode, setMode_crc, setMode_mode, ← hcrc, ← hmode]
    rfl
  | nop | clr | vbeg | vbyte | vend | rdst | rdaddr | rdfc | rdexc | rdtyp | rdlen | rdcrl | rdcrh => exact nomatch hi

/-- Settles O37: both states refuse the command, or both execute it, by their common MODE. -/
theorem generateCommandsUseOnlyCrcAndMode : Obligations.GenerateCommandsUseOnlyCrcAndMode := by
  intro i s u hi hcrc hmode
  rcases mode_refuses_or_not i s with ⟨m, hr, hm⟩ | hrun
  · refine ⟨_, _, _, exec_of_mode_ne hr hm, exec_of_mode_ne hr (hmode ▸ hm), rfl, ?_⟩
    simp only [raiseErr_crc, raiseErr_mode, ← hcrc, ← hmode]
    rfl
  · refine ⟨_, _, responseWord (commandAnswer i s), exec_of_mode_eq hrun, exec_of_mode_eq (hmode ▸ hrun), ?_, ?_⟩
    · rw [commandEffect_of_generate hi rfl rfl]
      rfl
    · rw [commandAnswer_of_generate hi hcrc, commandEffect_of_generate hi hcrc hmode]
      rfl

/-! ### The life of the results (10_state.md section 7) -/

/-- The states differ in CRC, MODE, E_SEQ and the words answered at most. -/
def KeepsResults (s t : State) : Prop :=
  t = { s with crc := t.crc, mode := t.mode, eSeq := t.eSeq, responses := t.responses }

theorem KeepsResults.trans {s t u : State} (hst : KeepsResults s t) (htu : KeepsResults t u) : KeepsResults s u := by
  refine Eq.trans htu ?_
  rw [hst]

/-- NOP and the reads answer a word and do nothing else (R46). -/
theorem exec_transparent {i : Instr} (h : isTransparent i = true) (s : State) :
    ∃ r, (r = 0x0000 ∨ hi r = 0x04) ∧ exec i s = .next (withResponses (s.responses ++ [r]) s) := by
  rcases Bool.or_eq_true .. ▸ h with hnop | hread
  · cases beq_iff_eq.1 hnop
    exact ⟨_, .inl rfl, exec_nop s⟩
  · obtain ⟨b, -, hexec⟩ := exec_read hread s
    exact ⟨_, .inr (hi_responseWord (.val b)), hexec⟩

theorem exec_keepsResults {i : Instr} (h : isGenerate i = true ∨ isTransparent i = true) {s t : State}
    (hexec : exec i s = .next t) : KeepsResults s t := by
  rcases h with hgen | htransparent
  · obtain ⟨u, _, r, hu, -, heq, -⟩ := generateCommandsUseOnlyCrcAndMode i s s hgen rfl rfl
    cases hu.symm.trans hexec
    rw [KeepsResults, heq]
  · obtain ⟨r, -, hu⟩ := exec_transparent htransparent s
    cases hu.symm.trans hexec
    rfl

theorem foldExec_keepsResults {cs : List Instr} (h : ∀ i ∈ cs, isGenerate i = true ∨ isTransparent i = true) {s t : State}
    (hfold : foldExec cs s = .next t) : KeepsResults s t := by
  induction cs generalizing s with
  | nil =>
    cases hfold
    rfl
  | cons i cs ih =>
    obtain ⟨hi, hcs⟩ := List.forall_mem_cons.1 h
    obtain ⟨u, hu⟩ := exec_total i s
    rw [foldExec_cons hu] at hfold
    exact (exec_keepsResults hi hu).trans (ih hcs hfold)

/-- Settles O56: each of the commands keeps the results, so the run does. -/
theorem resultsSurviveGeneration : Obligations.ResultsSurviveGeneration := by
  intro s cs h
  obtain ⟨t, -, ht, -, -⟩ := foldExec_total cs (present [] s)
  exact ⟨t, (runCommands_eq_foldExec cs s).trans ht, foldExec_keepsResults h ht⟩

end Sys2Proof.Machine
end

section
/-! PROOFS. The statements on the CRC arithmetic (40_crc_arithmetic.md section 4), and before them the one form of a bit step that
they all use: a shift, and the polynomial where bit 0 is set. -/

namespace Sys2Proof.Machine

/-! ### The bit step as a shift and a conditional XOR (R90) -/

/-- What a bit step XORs into the shifted register. -/
def polyIf (b : Bool) : Word := if b then 0xA001#16 else 0x0000#16

theorem polyIf_xor (a b : Bool) : polyIf (a ^^ b) = polyIf a ^^^ polyIf b := by
  cases a <;> cases b <;> decide

theorem crcShift_eq (r : Word) : crcShift r = (r >>> 1) ^^^ polyIf (r.getLsbD 0) := by
  rw [crcShift, polyIf]
  split
  · rfl
  · rw [BitVec.xor_zero]

theorem crcShift_xor (x y : Word) : crcShift (x ^^^ y) = crcShift x ^^^ crcShift y := by
  rw [crcShift_eq, crcShift_eq, crcShift_eq, BitVec.ushiftRight_xor_distrib, BitVec.getLsbD_xor, polyIf_xor]
  ac_rfl

/-! ### Linearity (40_crc_arithmetic.md section 4) -/

theorem crcShift_iterate_xor (n : Nat) (x y : Word) : crcShift^[n] (x ^^^ y) = crcShift^[n] x ^^^ crcShift^[n] y := by
  induction n generalizing x y with
  | zero => rfl
  | succ n ih => rw [Function.iterate_succ_apply, Function.iterate_succ_apply, Function.iterate_succ_apply, crcShift_xor, ih]

theorem crcUpd_xor (r1 r2 : Word) (b1 b2 : Byte) : crcUpd (r1 ^^^ r2) (b1 ^^^ b2) = crcUpd r1 b1 ^^^ crcUpd r2 b2 := by
  rw [crcUpd_eq_iterate, crcUpd_eq_iterate, crcUpd_eq_iterate, ← crcShift_iterate_xor, BitVec.setWidth_xor]
  ac_rfl

/-- Absorbing a byte is XORing it in, then absorbing 0x00. -/
theorem crcUpd_eq_crcUpd_zero (r : Word) (b : Byte) : crcUpd r b = crcUpd (r ^^^ b.setWidth 16) 0x00 := by
  have hzero : (0x00 : Byte).setWidth 16 = 0x0000#16 := rfl
  rw [crcUpd_eq_iterate, crcUpd_eq_iterate, hzero, BitVec.xor_zero]

/-- Settles O44: the bit step is linear, so its iterate and the byte step are. -/
theorem crcLinearOverXor : Obligations.CrcLinearOverXor := ⟨crcShift_xor, crcUpd_xor, crcUpd_eq_crcUpd_zero⟩

/-! ### The bit-serial form -/

/-- One step of the bit-serial form: bit `i` of the byte decides with bit 0 of the register. -/
def bitStep (b : Byte) (r : Word) (i : Nat) : Word :=
  if Bool.xor (r.getLsbD 0) (b.getLsbD i) then (r >>> 1) ^^^ 0xA001 else r >>> 1

theorem bitStep_eq (b : Byte) (r : Word) (i : Nat) : bitStep b r i = (r >>> 1) ^^^ polyIf (r.getLsbD 0 ^^ b.getLsbD i) := by
  rw [bitStep, polyIf]
  split
  · rfl
  · rw [BitVec.xor_zero]

/-- After `k` bits the two forms differ by the bits still to come: the parallel form has them in the register already. -/
theorem foldl_bitStep_xor (r : Word) (b : Byte) (k : Nat) :
    (List.range k).foldl (bitStep b) r ^^^ (b.setWidth 16 >>> k) = crcShift^[k] (r ^^^ b.setWidth 16) := by
  induction k with
  | zero => simp
  | succ k ih =>
    have hbit : (b.setWidth 16 >>> k : Word).getLsbD 0 = b.getLsbD k := by
      rw [BitVec.getLsbD_ushiftRight, BitVec.getLsbD_setWidth, Nat.add_zero]
      by_cases hk : k < 16
      · simp [hk]
      · simp [hk, BitVec.getLsbD_of_ge b k (by omega)]
    rw [Function.iterate_succ_apply', ← ih, crcShift_xor, crcShift_eq, crcShift_eq, hbit, ← BitVec.shiftRight_add, List.range_succ,
      List.foldl_append, List.foldl_cons, List.foldl_nil, bitStep_eq, polyIf_xor]
    ac_rfl

/-- Settles O43: after eight bits no bit of the byte is still to come. -/
theorem crcBitSerialForm : Obligations.CrcBitSerialForm := by
  intro r b
  have hnone : (b.setWidth 16 >>> 8 : Word) = 0#16 := by
    ext i hi
    simp
  have hforms := foldl_bitStep_xor r b 8
  rw [hnone, BitVec.xor_zero] at hforms
  exact (crcUpd_eq_iterate r b).trans hforms.symm

/-! ### The table form -/

/-- Bit steps on a register whose low bits are 0 only shift. -/
theorem crcShift_iterate_of_low_zero {n : Nat} {y : Word} (h : ∀ k < n, y.getLsbD k = false) : crcShift^[n] y = y >>> n := by
  induction n with
  | zero => simp
  | succ n ih =>
    have hbit : (y >>> n).getLsbD 0 = false := by rw [BitVec.getLsbD_ushiftRight]; exact h n n.lt_succ_self
    rw [Function.iterate_succ_apply', ih fun k hk => h k (hk.trans n.lt_succ_self), crcShift_eq, hbit, BitVec.shiftRight_add]
    exact BitVec.xor_zero

theorem setWidth_eq_zero_append (b : Byte) : b.setWidth 16 = 0x00#8 ++ b := BitVec.setWidth_eq_append (by decide)

theorem ushiftRight_eight (w : Word) : w >>> 8 = 0x00#8 ++ hi w := by
  apply BitVec.eq_of_toNat_eq
  rw [← setWidth_eq_zero_append, BitVec.toNat_ushiftRight, Nat.shiftRight_eq_div_pow, BitVec.toNat_setWidth, hi_toNat]
  omega

/-- XORing a byte into a word leaves the high byte. -/
theorem xor_setWidth (w : Word) (b : Byte) : w ^^^ b.setWidth 16 = hi w ++ (lo w ^^^ b) := by
  calc w ^^^ b.setWidth 16
    _ = (hi w ++ lo w) ^^^ (0x00#8 ++ b) := by rw [hi_append_lo, setWidth_eq_zero_append]
    _ = hi w ++ (lo w ^^^ b) := by rw [BitVec.xor_append, BitVec.xor_zero]

/-- Eight bit steps move the high byte down, and the low byte is what the table is looked up with. -/
theorem crcShift_iterate_eight (h l : Byte) : crcShift^[8] (h ++ l) = (0x00#8 ++ h) ^^^ crcUpd 0x0000 l := by
  have hsplit : h ++ l = (h ++ 0x00#8) ^^^ (0x0000#16 ^^^ l.setWidth 16) := by
    rw [BitVec.zero_xor, xor_setWidth, hi_append, lo_append, BitVec.zero_xor]
  have hlow : ∀ k < 8, (h ++ 0x00#8 : Word).getLsbD k = false := by
    intro k hk
    rw [getLsbD_append_of_lt _ _ hk, BitVec.getLsbD_zero]
  rw [hsplit, crcShift_iterate_xor, ← crcUpd_eq_iterate, crcShift_iterate_of_low_zero hlow, ushiftRight_eight, hi_append]
  rfl

theorem crcUpd_table (r : Word) (b : Byte) : crcUpd r b = (r >>> 8) ^^^ crcUpd 0x0000 (lo (r ^^^ b.setWidth 16)) := by
  rw [crcUpd_eq_iterate, xor_setWidth, crcShift_iterate_eight, ushiftRight_eight, lo_append]

/-- Settles O45: the high byte is shifted, and the low byte is the table's argument. -/
theorem crcTableForm : Obligations.CrcTableForm := crcUpd_table

/-! ### The residue -/

theorem crcUpd_lo (c : Word) : crcUpd c (lo c) = c >>> 8 := by
  have hzero : lo (c ^^^ (lo c).setWidth 16) = 0x00 := by
    rw [xor_setWidth, lo_append, BitVec.xor_self]
    rfl
  rw [crcUpd_table, hzero]
  exact BitVec.xor_zero

/-- Absorbing a register's own bytes, low byte first, empties it. -/
theorem crcUpd_own_bytes (c : Word) : crcUpd (crcUpd c (lo c)) (hi c) = 0x0000 := by
  have hnone : lo ((0x00#8 ++ hi c) ^^^ (hi c).setWidth 16) = 0x00 := by
    rw [xor_setWidth, lo_append, lo_append, BitVec.xor_self]
    rfl
  rw [crcUpd_lo, ushiftRight_eight, crcUpd_table, hnone, ushiftRight_eight, hi_append]
  decide

/-- Settles O46: the CRC's own bytes empty the register. -/
theorem crcResidueIsZero : Obligations.CrcResidueIsZero := by
  intro s
  rw [crc16_append]
  exact crcUpd_own_bytes (crc16 s)

/-! ### Bijectivity -/

/-- A bit step loses nothing: bit 15 of the result says whether the polynomial was XORed in, and so what bit 0 was. -/
theorem crcShift_eq_zero {x : Word} (h : crcShift x = 0x0000#16) : x = 0x0000#16 := by
  have hbit0 : x.getLsbD 0 = false := by
    have hmsb : (crcShift x).getLsbD 15 = false := by rw [h]; rfl
    rw [crcShift_eq, BitVec.getLsbD_xor, BitVec.getLsbD_ushiftRight, BitVec.getLsbD_of_ge x (1 + 15) (by decide)] at hmsb
    cases hx : x.getLsbD 0 with
    | false => rfl
    | true =>
      rw [hx] at hmsb
      exact nomatch hmsb
  rw [crcShift_eq, hbit0] at h
  have hshift : x.toNat / 2 = 0 := by
    rw [← toNat_shiftRight_one, show x >>> 1 = 0x0000#16 from (BitVec.xor_zero (x := x >>> 1)).symm.trans h]
    rfl
  have heven : ¬ x.toNat % 2 = 1 := by rw [← getLsbD_zero_iff_odd, hbit0]; exact Bool.false_ne_true
  apply BitVec.eq_of_toNat_eq
  rw [BitVec.toNat_ofNat]
  omega

theorem crcShift_injective : Function.Injective crcShift := by
  intro x y h
  have hzero : crcShift (x ^^^ y) = 0x0000#16 := by rw [crcShift_xor, h, BitVec.xor_self]
  exact BitVec.xor_eq_zero_iff.1 (crcShift_eq_zero hzero)

theorem crcUpd_injective_register (b : Byte) : Function.Injective (fun r => crcUpd r b) := by
  intro x y h
  exact (BitVec.xor_left_inj _).1 (crcShift_injective.iterate 8 h)

theorem crcUpd_injective_byte (r : Word) : Function.Injective (fun b => crcUpd r b) := by
  intro a b h
  have hwide : a.setWidth 16 = b.setWidth 16 := (BitVec.xor_right_inj _).1 (crcShift_injective.iterate 8 h)
  rw [setWidth_eq_zero_append, setWidth_eq_zero_append, word_eq_iff] at hwide
  simpa using hwide

/-- Absorbing the same bytes into different registers leaves them different. -/
theorem foldl_crcUpd_injective (bs : List Byte) : Function.Injective (fun r => bs.foldl crcUpd r) := by
  induction bs with
  | nil => exact Function.injective_id
  | cons b bs ih => exact ih.comp (crcUpd_injective_register b)

/-- Settles O47: an injective function of a finite type is bijective, and the changed byte changes the register for good. -/
theorem crcDetectsOneChangedByte : Obligations.CrcDetectsOneChangedByte := by
  refine ⟨Finite.injective_iff_bijective.1 crcShift_injective,
    fun b => Finite.injective_iff_bijective.1 (crcUpd_injective_register b), crcUpd_injective_byte, fun p q a b hne heq => ?_⟩
  rw [crc16_append, crc16_append] at heq
  exact hne (crcUpd_injective_byte _ (foldl_crcUpd_injective q heq))

end Sys2Proof.Machine
end

section
/-! PROOFS. The statements on generated frames (42_generate.md section 6, 44_readout.md section 10, 45_envelope.md section 2), and
before them what NOP and the reads add to a run, and what the generate commands answer one after another. -/

namespace Sys2Proof.Machine

/-! ### The bytes of one kind in a response stream (R61) -/

theorem bytesOfKind_append (k : Byte) (rs qs : List Word) :
    bytesOfKind k (rs ++ qs) = bytesOfKind k rs ++ bytesOfKind k qs := by
  simp [bytesOfKind]

theorem bytesOfKind_cons_of_ne {k : Byte} {r : Word} (h : hi r ≠ k) (rs : List Word) :
    bytesOfKind k (r :: rs) = bytesOfKind k rs := by
  simp [bytesOfKind, h]

/-- The words of one kind that carry these bytes. -/
def wordsOfKind (k : Byte) (bs : List Byte) : List Word := bs.map (fun b => k ++ b)

@[simp] theorem wordsOfKind_nil (k : Byte) : wordsOfKind k [] = [] := rfl

@[simp] theorem wordsOfKind_cons (k b : Byte) (bs : List Byte) : wordsOfKind k (b :: bs) = (k ++ b) :: wordsOfKind k bs := rfl

theorem wordsOfKind_append (k : Byte) (bs ds : List Byte) : wordsOfKind k (bs ++ ds) = wordsOfKind k bs ++ wordsOfKind k ds :=
  List.map_append

theorem hi_of_mem_wordsOfKind {k : Byte} {bs : List Byte} {r : Word} (h : r ∈ wordsOfKind k bs) : hi r = k := by
  obtain ⟨b, -, rfl⟩ := List.mem_map.1 h
  exact hi_append k b

theorem bytesOfKind_wordsOfKind (k : Byte) (bs : List Byte) : bytesOfKind k (wordsOfKind k bs) = bs := by
  induction bs with
  | nil => rfl
  | cons b bs ih =>
    rw [bytesOfKind] at ih ⊢
    rw [wordsOfKind_cons, List.filter_cons_of_pos (by rw [hi_append]; exact beq_self_eq_true k), List.map_cons, lo_append, ih]

/-! ### NOP and reads in a run (R46, R168) -/

/-- A word that NOP or a read answers. -/
def IsTransparentWord (r : Word) : Prop := r = 0x0000 ∨ hi r = 0x04

/-- The words of the first list are those of the second, with words of NOP and reads among them. -/
inductive AddsTransparent : List Word → List Word → Prop
  | nil : AddsTransparent [] []
  | keep (r : Word) {rs qs : List Word} : AddsTransparent rs qs → AddsTransparent (r :: rs) (r :: qs)
  | add {r : Word} {rs qs : List Word} : IsTransparentWord r → AddsTransparent rs qs → AddsTransparent (r :: rs) qs

theorem AddsTransparent.bytesOfKind_eq {rs qs : List Word} (h : AddsTransparent rs qs) {k : Byte} (hack : k ≠ 0x00)
    (hval : k ≠ 0x04) : bytesOfKind k rs = bytesOfKind k qs := by
  induction h with
  | nil => rfl
  | keep r _ ih =>
    by_cases hk : hi r = k
    · rw [bytesOfKind, bytesOfKind] at ih ⊢
      simp [hk, ih]
    · rw [bytesOfKind_cons_of_ne hk, bytesOfKind_cons_of_ne hk, ih]
  | add hr _ ih =>
    rw [bytesOfKind_cons_of_ne, ih]
    rcases hr with rfl | hr
    · exact hack.symm
    · rw [hr]
      exact hval.symm

theorem AddsTransparent.mem {rs qs : List Word} (h : AddsTransparent rs qs) {r : Word} (hr : r ∈ rs) :
    r ∈ qs ∨ IsTransparentWord r := by
  induction h with
  | nil => exact nomatch hr
  | keep q _ ih =>
    rcases List.mem_cons.1 hr with rfl | hr
    · exact .inl List.mem_cons_self
    · exact (ih hr).imp_left (List.mem_cons_of_mem q)
  | add hq _ ih =>
    rcases List.mem_cons.1 hr with rfl | hr
    · exact .inr hq
    · exact ih hr

/-- NOP and reads add their words to a fold, and change no other word and nothing else of the state after. -/
theorem foldExec_of_effective {cs : List Instr} {s t : State} {qs : List Word} (h : foldExec (effective cs) s = .next t)
    (hqs : t.responses = s.responses ++ qs) :
    ∃ rs, foldExec cs s = .next (withResponses (s.responses ++ rs) t) ∧ rs.length = cs.length ∧ AddsTransparent rs qs := by
  induction cs generalizing s qs with
  | nil =>
    cases h
    obtain rfl : qs = [] := by simpa using hqs
    exact ⟨[], by rw [← hqs]; rfl, rfl, .nil⟩
  | cons i cs ih =>
    by_cases hi : isTransparent i = true
    · rw [effective, List.filter_cons_of_neg (by simp [hi])] at h
      obtain ⟨rs, hfold, hlen, hadds⟩ := ih h hqs
      obtain ⟨r, hr, hexec⟩ := exec_transparent hi s
      refine ⟨r :: rs, ?_, congrArg Nat.succ hlen, .add hr hadds⟩
      rw [foldExec_cons hexec, foldExec_withResponses hfold rfl, List.append_assoc]
      rfl
    · rw [effective, List.filter_cons_of_pos (by simp [hi])] at h
      obtain ⟨u, hu⟩ := exec_total i s
      obtain ⟨r, hr⟩ := exec_responses hu
      rw [foldExec_cons hu] at h
      obtain ⟨t', qs', ht', hqs', -⟩ := foldExec_total (effective cs) u
      cases h.symm.trans ht'
      obtain rfl : qs = r :: qs' := by simpa [hqs', hr] using hqs.symm
      obtain ⟨rs, hfold, hlen, hadds⟩ := ih h hqs'
      refine ⟨r :: rs, ?_, congrArg Nat.succ hlen, .keep r hadds⟩
      rw [foldExec_cons hu, hfold, hr, List.append_assoc, List.singleton_append]

/-! ### A generate sequence (R120 to R125) -/

/-- GEXC or GBYTE, by the mark of the byte. -/
def dataCommand (p : Bool × Byte) : Instr := if p.1 then .gexc p.2 else .gbyte p.2

/-- The byte that the command puts on the wire. -/
def dataByte (p : Bool × Byte) : Byte := if p.1 then p.2 ||| 0x80 else p.2

theorem exec_dataCommand (p : Bool × Byte) {s : State} (hm : s.mode = .gen) :
    exec (dataCommand p) s = .next (respond (.wire (dataByte p)) (absorb (dataByte p) s)) := by
  rw [dataCommand, dataByte]
  split
  · exact exec_gexc_gen p.2 hm
  · exact exec_gbyte_gen p.2 hm

/-- In GEN the data commands put out their bytes and absorb them. -/
theorem foldExec_dataCommands (data : List (Bool × Byte)) {s : State} (hm : s.mode = .gen) :
    foldExec (data.map dataCommand) s = .next (withResponses (s.responses ++ wordsOfKind 0x01 (data.map dataByte))
      (setCrc ((data.map dataByte).foldl crcUpd s.crc) s)) := by
  induction data generalizing s with
  | nil => simp [foldExec, withResponses, setCrc]
  | cons p data ih =>
    rw [List.map_cons, foldExec_cons (exec_dataCommand p hm), ih (by simpa using hm), respond_responses, absorb_responses,
      List.append_assoc]
    rfl

/-- The two CRC commands put out the CRC register, low byte first, and end the frame. -/
theorem foldExec_crcCommands {s : State} (hm : s.mode = .gen) :
    foldExec [.gcrl, .gcrh] s =
      .next (withResponses (s.responses ++ wordsOfKind 0x01 (crcBytes s.crc)) (setMode .idle s)) := by
  rw [foldExec_cons (exec_gcrl_gen hm), foldExec_cons (exec_gcrh_gent rfl), foldExec, respond_eq_withResponses, setMode_responses,
    respond_responses, setMode_responses, List.append_assoc]
  rfl

/-- GBEG and the data commands leave the CRC of the bytes in the register, in GEN. -/
theorem foldExec_begin_data (data : List (Bool × Byte)) (s : State) :
    foldExec (.gbeg :: data.map dataCommand) s =
      .next (withResponses (s.responses ++ 0x0000 :: wordsOfKind 0x01 (data.map dataByte))
        (setMode .gen (setCrc (crc16 (data.map dataByte)) s))) := by
  rw [foldExec_cons (exec_gbeg s), foldExec_dataCommands data rfl, respond_responses, List.append_assoc]
  rfl

/-- The generator theorem without NOP and reads. -/
theorem foldExec_generate (data : List (Bool × Byte)) (s : State) :
    foldExec (.gbeg :: (data.map dataCommand ++ [.gcrl, .gcrh])) s =
      .next (withResponses
        (s.responses ++ 0x0000 :: wordsOfKind 0x01 (data.map dataByte ++ crcBytes (crc16 (data.map dataByte))))
        (setMode .idle (setCrc (crc16 (data.map dataByte)) s))) := by
  rw [← List.cons_append, foldExec_append (foldExec_begin_data data s), foldExec_crcCommands rfl, wordsOfKind_append,
    ← List.cons_append, ← List.append_assoc]
  rfl

theorem wireBytes_ack_wordsOfKind (bs : List Byte) : wireBytes (0x0000 :: wordsOfKind 0x01 bs) = bs := by
  rw [wireBytes, bytesOfKind_cons_of_ne (by decide), bytesOfKind_wordsOfKind]

/-- Settles O48: the sequence without NOP and reads puts out the frame, and these add no WIRE word. -/
theorem generateSequencePutsOutTheFrame : Obligations.GenerateSequencePutsOutTheFrame := by
  intro s data cs hcs
  have hfold := (congrArg (fun xs => foldExec xs (present [] s)) hcs).trans (foldExec_generate data (present [] s))
  obtain ⟨rs, hrun, hlen, hadds⟩ := foldExec_of_effective hfold rfl
  refine ⟨_, rs, _, rfl, (runCommands_eq_foldExec cs s).trans hrun, rfl, hlen, ?_, fun r hr => ?_, rfl, rfl⟩
  · exact (hadds.bytesOfKind_eq (by decide) (by decide)).trans (wireBytes_ack_wordsOfKind _)
  · rcases hadds.mem hr with hmem | hack | hval
    · exact (List.mem_cons.1 hmem).imp_right fun hwire => .inl (hi_of_mem_wordsOfKind hwire)
    · exact .inl hack
    · exact .inr (.inr hval)

/-! ### The frames of `rtu_encode` (R181, R183) -/

/-- Bytes none of which is marked. -/
def plainData (bs : List Byte) : List (Bool × Byte) := bs.map (fun b => (false, b))

theorem plainData_commands (bs : List Byte) : (plainData bs).map dataCommand = bs.map .gbyte := List.map_map

theorem plainData_bytes (bs : List Byte) : (plainData bs).map dataByte = bs :=
  List.map_map.trans (List.map_id bs)

/-- The bytes of a frame before its CRC, the function byte marked on request. -/
def frameData (x : FrameSpec) : List (Bool × Byte) := (false, x.addr) :: (x.exception, x.fc) :: plainData x.body

theorem frameData_bytes (x : FrameSpec) : (frameData x).map dataByte = frameHead x := by
  rw [frameData, List.map_cons, List.map_cons, plainData_bytes]
  rfl

theorem frameData_commands (x : FrameSpec) :
    (frameData x).map dataCommand = .gbyte x.addr :: dataCommand (x.exception, x.fc) :: x.body.map .gbyte := by
  rw [frameData, List.map_cons, List.map_cons, plainData_commands]
  rfl

/-- The generate sequence of a frame puts out `rtu_encode` of the frame. -/
theorem runCommands_encode (x : FrameSpec) (s : State) :
    ∃ (t : State) (rs : List Word),
      runCommands (.gbeg :: ((.gbyte x.addr :: dataCommand (x.exception, x.fc) :: x.body.map .gbyte) ++ [.gcrl, .gcrh])) s =
        .next t ∧
      t.responses = s.responses ++ rs ∧ wireBytes rs = rtuEncode x := by
  have hfold := foldExec_generate (frameData x) (present [] s)
  rw [frameData_commands, frameData_bytes] at hfold
  exact ⟨_, 0x0000 :: wordsOfKind 0x01 (rtuEncode x), (runCommands_eq_foldExec _ s).trans hfold, rfl,
    wireBytes_ack_wordsOfKind _⟩

/-- Settles O51: the two sequences are those of a frame without and with the exception flag. -/
theorem encodeSequencesMatchRtuEncode : Obligations.EncodeSequencesMatchRtuEncode :=
  fun s a fc body => ⟨runCommands_encode ⟨a, false, fc, body⟩ s, runCommands_encode ⟨a, true, fc, body⟩ s⟩

/-! ### The pseudo-instruction CRC16 (R73, R169) -/

/-- Reads one after another answer what they read and change nothing. -/
theorem foldExec_reads {cs : List Instr} (h : ∀ i ∈ cs, isRead i = true) (s : State) :
    foldExec cs s = .next (withResponses (s.responses ++ cs.map (fun i => responseWord (commandAnswer i s))) s) := by
  induction cs generalizing s with
  | nil => simp [foldExec, withResponses]
  | cons i cs ih =>
    obtain ⟨hi, hcs⟩ := List.forall_mem_cons.1 h
    obtain ⟨b, hb, hexec⟩ := exec_read hi s
    rw [foldExec_cons hexec, respond_eq_withResponses, ih hcs]
    simp only [commandAnswer_withResponses]
    rw [List.map_cons, hb, List.append_cons s.responses _ (cs.map _)]
    rfl

/-- Settles O58: the bytes are absorbed in GEN, and the two reads answer the register. -/
theorem crc16PseudoComputesTheCrc : Obligations.Crc16PseudoComputesTheCrc := by
  intro s bs
  have hdata := foldExec_begin_data (plainData bs) (present [] s)
  rw [plainData_commands, plainData_bytes] at hdata
  have hfold := (foldExec_append hdata [.rdcrl, .rdcrh]).trans (foldExec_reads (by decide) _)
  exact ⟨_, 0x0000 :: wordsOfKind 0x01 bs, (runCommands_eq_foldExec _ s).trans hfold, rfl, wireBytes_ack_wordsOfKind bs, rfl⟩

end Sys2Proof.Machine
end

section
/-! PROOFS. The statements on the registers and the answers of a verified frame (43_verify.md sections 1 and 4), and before them the
parts of a frame that the registers hold, and what a block holds after VBEG and any number of bytes. -/

namespace Sys2Proof.Machine

/-! ### The parts of a frame -/

/-- The byte `k` places before the frame's last one, 0x00 where the frame has no such byte. -/
def fromEnd (f : List Byte) (k : Nat) : Byte := f.reverse.getD k 0x00

theorem fromEnd_append_zero (f : List Byte) (d : Byte) : fromEnd (f ++ [d]) 0 = d := by
  simp [fromEnd]

theorem fromEnd_append_succ (f : List Byte) (d : Byte) (k : Nat) : fromEnd (f ++ [d]) (k + 1) = fromEnd f k := by
  simp [fromEnd]

theorem fromEnd_eq_frameByte {f : List Byte} {k : Nat} (hk : k < f.length) : fromEnd f k = frameByte f (f.length - 1 - k) := by
  rw [fromEnd, frameByte, List.getD_eq_getElem?_getD, List.getD_eq_getElem?_getD, List.getElem?_reverse hk]

theorem fromEnd_of_length_le {f : List Byte} {k : Nat} (hk : f.length ≤ k) : fromEnd f k = 0x00 :=
  List.getD_eq_default _ _ (by simpa using hk)

theorem frameByte_of_length_le {f : List Byte} {k : Nat} (hk : f.length ≤ k) : frameByte f k = 0x00 := List.getD_eq_default _ _ hk

theorem getElem?_eq_frameByte {f : List Byte} {k : Nat} (hk : k < f.length) : f[k]? = some (frameByte f k) := by
  rw [frameByte, List.getD_eq_getElem _ _ hk, List.getElem?_eq_getElem hk]

theorem frameByte_append (f : List Byte) (d : Byte) (k : Nat) :
    frameByte (f ++ [d]) k = if f.length = k then d else frameByte f k := by
  rw [frameByte, frameByte, List.getD_eq_getElem?_getD, List.getD_eq_getElem?_getD]
  by_cases hk : f.length = k
  · subst hk
    simp
  · rw [if_neg hk]
    rcases Nat.lt_or_gt_of_ne hk with hlt | hgt
    · rw [List.getElem?_eq_none (by simp; omega), List.getElem?_eq_none (by omega)]
    · rw [List.getElem?_append_left hgt]

theorem beforeCrc_length (f : List Byte) : (beforeCrc f).length = f.length - 2 := by
  rw [beforeCrc, List.length_take]
  omega

theorem beforeCrc_of_length_le {f : List Byte} (hf : f.length ≤ 2) : beforeCrc f = [] :=
  List.eq_nil_of_length_eq_zero (by rw [beforeCrc_length]; omega)

/-- A frame of four bytes or fewer has no data. -/
theorem drop_beforeCrc_of_length_le {f : List Byte} (hf : f.length ≤ 4) : (beforeCrc f).drop 2 = [] :=
  List.drop_eq_nil_of_le (by rw [beforeCrc_length]; omega)

/-- A new byte makes the byte two places before it one that is not of the CRC. -/
theorem beforeCrc_append {f : List Byte} (hf : 2 ≤ f.length) (d : Byte) :
    beforeCrc (f ++ [d]) = beforeCrc f ++ [fromEnd f 1] := by
  have hlen : (f ++ [d]).length - 2 = f.length - 2 + 1 := by
    rw [List.length_append, List.length_singleton]
    omega
  have hidx : f.length - 1 - 1 = f.length - 2 := by omega
  rw [beforeCrc, beforeCrc, hlen, List.take_append_of_le_length (by omega), List.take_add_one, fromEnd_eq_frameByte (by omega),
    hidx, getElem?_eq_frameByte (by omega)]
  rfl

/-! ### The payload words (R141 (b), R145) -/

/-- The words that answer the bytes of a frame: ACK for the first four, then PAY of the frame's data. -/
def byteWords (f : List Byte) : List Word :=
  List.replicate (min f.length 4) 0x0000 ++ wordsOfKind 0x02 ((beforeCrc f).drop 2)

theorem byteWords_append_of_lt {f : List Byte} (hf : f.length < 4) (d : Byte) : byteWords (f ++ [d]) = byteWords f ++ [0x0000] := by
  have hlen : (f ++ [d]).length = f.length + 1 := List.length_append
  have hmin : min (f ++ [d]).length 4 = min f.length 4 + 1 := by omega
  rw [byteWords, byteWords, drop_beforeCrc_of_length_le (f := f) (by omega), drop_beforeCrc_of_length_le (by omega), hmin,
    List.replicate_succ', wordsOfKind_nil, List.append_nil, List.append_nil]

theorem byteWords_append_of_le {f : List Byte} (hf : 4 ≤ f.length) (d : Byte) :
    byteWords (f ++ [d]) = byteWords f ++ [0x02#8 ++ fromEnd f 1] := by
  have hlen : (f ++ [d]).length = f.length + 1 := List.length_append
  have hmin : min (f ++ [d]).length 4 = min f.length 4 := by omega
  rw [byteWords, byteWords, hmin, beforeCrc_append (by omega), List.drop_append_of_le_length (by rw [beforeCrc_length]; omega),
    wordsOfKind_append, List.append_assoc]
  rfl

theorem byteWords_length (f : List Byte) : (byteWords f).length = f.length := by
  rw [byteWords, List.length_append, List.length_replicate, wordsOfKind, List.length_map, List.length_drop, beforeCrc_length]
  omega

theorem mem_byteWords {f : List Byte} {r : Word} (h : r ∈ byteWords f) : r = 0x0000 ∨ hi r = 0x02 :=
  (List.mem_append.1 h).imp List.eq_of_mem_replicate hi_of_mem_wordsOfKind

theorem payBytes_ack_byteWords (f : List Byte) : payBytes (0x0000 :: byteWords f) = (beforeCrc f).drop 2 := by
  have hack : ∀ n, bytesOfKind 0x02 (List.replicate n 0x0000) = [] := by
    intro n
    induction n with
    | zero => rfl
    | succ n ih => rw [List.replicate_succ, bytesOfKind_cons_of_ne (by decide), ih]
  rw [payBytes, bytesOfKind_cons_of_ne (by decide), byteWords, bytesOfKind_append, hack, bytesOfKind_wordsOfKind, List.nil_append]

/-! ### The registers after any number of bytes (43_verify.md section 4) -/

/-- What a block of station address `m` holds after VBEG and the bytes `f`. -/
structure Receiving (f : List Byte) (m : Byte) (t : State) : Prop where
  mode : t.mode = .chk
  myAddr : t.myAddr = m
  cnt : t.cnt.toNat = min f.length 257
  crc : t.crc = crc16 (beforeCrc f)
  h0 : t.h0 = fromEnd f 0
  h1 : t.h1 = fromEnd f 1
  addr : t.addr = frameByte f 0
  fcb : t.fcb = frameByte f 1
  b2 : t.b2 = frameByte f 2
  plen : t.plen = 0
  noResult : NoResult t

theorem Receiving.withResponses {f : List Byte} {m : Byte} {t : State} (h : Receiving f m t) (q : List Word) :
    Receiving f m (withResponses q t) :=
  { h with noResult := h.noResult }

theorem receiving_vbeg (s : State) : Receiving [] s.myAddr (setMode .chk (clearFrame s)) :=
  ⟨rfl, rfl, rfl, rfl, rfl, rfl, rfl, rfl, rfl, rfl, rfl, rfl, rfl, rfl, rfl⟩

theorem Receiving.cnt_eq_iff {f : List Byte} {m : Byte} {t : State} (h : Receiving f m t) {k : Nat} (hk : k < 257) :
    t.cnt.toNat = k ↔ f.length = k := by
  rw [h.cnt]
  omega

theorem Receiving.le_cnt_iff {f : List Byte} {m : Byte} {t : State} (h : Receiving f m t) {k : Nat} (hk : k ≤ 257) :
    k ≤ t.cnt.toNat ↔ k ≤ f.length := by
  rw [h.cnt]
  omega

/-- The byte taken in is the frame's new last one. -/
theorem Receiving.takeByte {f : List Byte} {m : Byte} {t : State} (h : Receiving f m t) (d : Byte) :
    Receiving (f ++ [d]) m (takeByte d t) where
  mode := h.mode
  myAddr := h.myAddr
  cnt := by
    rw [takeByte_cnt, countUp_toNat, h.cnt, List.length_append, List.length_singleton]
    omega
  crc := by
    rw [takeByte_crc, h.crc, h.h1]
    by_cases hf : 2 ≤ f.length
    · rw [if_pos ((h.le_cnt_iff (by decide)).2 hf), beforeCrc_append hf, crc16_append_singleton]
    · have hnew : (f ++ [d]).length ≤ 2 := by
        rw [List.length_append, List.length_singleton]
        omega
      rw [if_neg (mt (h.le_cnt_iff (by decide)).1 hf), beforeCrc_of_length_le (f := f) (by omega), beforeCrc_of_length_le hnew]
  h0 := (fromEnd_append_zero f d).symm
  h1 := h.h0.trans (fromEnd_append_succ f d 0).symm
  addr := by rw [takeByte_addr, frameByte_append, h.addr, if_congr (h.cnt_eq_iff (by decide)) rfl rfl]
  fcb := by rw [takeByte_fcb, frameByte_append, h.fcb, if_congr (h.cnt_eq_iff (by decide)) rfl rfl]
  b2 := by rw [takeByte_b2, frameByte_append, h.b2, if_congr (h.cnt_eq_iff (by decide)) rfl rfl]
  plen := h.plen
  noResult := h.noResult

/-- The word that answers a byte is the frame's next one. -/
theorem Receiving.byteWords_append {f : List Byte} {m : Byte} {t : State} (h : Receiving f m t) (d : Byte) :
    byteWords (f ++ [d]) = byteWords f ++ [responseWord (byteResponse t)] := by
  rw [byteResponse, h.h1]
  by_cases hf : 4 ≤ f.length
  · rw [if_pos ((h.le_cnt_iff (by decide)).2 hf), byteWords_append_of_le hf]
    rfl
  · rw [if_neg (mt (h.le_cnt_iff (by decide)).1 hf), byteWords_append_of_lt (by omega)]
    rfl

/-- The verifier invariant, by induction on the frame from its last byte. -/
theorem foldExec_receive (s : State) (f : List Byte) :
    ∃ t, foldExec (.vbeg :: f.map .vbyte) s = .next t ∧ Receiving f s.myAddr t ∧
      t.responses = s.responses ++ 0x0000 :: byteWords f := by
  induction f using List.reverseRecOn with
  | nil => exact ⟨_, foldExec_cons (exec_vbeg s) [], (receiving_vbeg s).withResponses _, rfl⟩
  | append_singleton f d ih =>
    obtain ⟨t, hfold, hreceiving, hresp⟩ := ih
    have hnew : foldExec (.vbeg :: (f ++ [d]).map .vbyte) s = .next (respond (byteResponse t) (takeByte d t)) := by
      rw [List.map_append, ← List.cons_append, foldExec_append hfold]
      exact foldExec_cons (exec_vbyte_chk d hreceiving.mode) []
    refine ⟨_, hnew, (hreceiving.takeByte d).withResponses _, ?_⟩
    rw [respond_responses, takeByte_responses, hresp, hreceiving.byteWords_append d, List.append_assoc, List.cons_append]

/-- The same with NOP and reads among the bytes. -/
theorem foldExec_receive_effective (s : State) {f : List Byte} {cs : List Instr} (hcs : effective cs = .vbeg :: f.map .vbyte) :
    ∃ t rs, foldExec cs s = .next t ∧ Receiving f s.myAddr t ∧ t.responses = s.responses ++ rs ∧ rs.length = cs.length ∧
      AddsTransparent rs (0x0000 :: byteWords f) := by
  obtain ⟨t, hfold, hreceiving, hresp⟩ := foldExec_receive s f
  obtain ⟨rs, hrun, hlen, hadds⟩ := foldExec_of_effective (hcs ▸ hfold) hresp
  exact ⟨_, rs, hrun, hreceiving.withResponses _, rfl, hlen, hadds⟩

/-- Settles O49: the registers by the verifier invariant, where the frame has the byte, and 0 where it has not. -/
theorem verifierRegistersTrackTheFrame : Obligations.VerifierRegistersTrackTheFrame := by
  intro s f cs hcs
  obtain ⟨t, rs, hfold, h, -⟩ := foldExec_receive_effective (present [] s) hcs
  obtain ⟨hft, hfs, hfl, hfc, hfa⟩ := h.noResult
  refine ⟨t, (runCommands_eq_foldExec cs s).trans hfold, h.mode, h.cnt, h.crc, fun hf => ⟨?_, ?_⟩, fun hf => ⟨?_, ?_⟩, fun hf => ?_,
    fun hf => ⟨?_, ?_⟩, fun hf => ⟨?_, ?_⟩, fun hf => ?_, hft, h.plen, hfs, hfl, hfc, hfa⟩
  · rw [h.h0, fromEnd_eq_frameByte hf]
    exact getElem?_eq_frameByte (by omega)
  · rw [h.addr, getElem?_eq_frameByte hf]
  · rw [h.h1, fromEnd_eq_frameByte hf]
    exact getElem?_eq_frameByte (by omega)
  · rw [h.fcb, getElem?_eq_frameByte hf]
  · rw [h.b2, getElem?_eq_frameByte hf]
  · rw [h.h0, fromEnd_of_length_le (by omega)]
  · rw [h.addr, frameByte_of_length_le (by omega)]
  · rw [h.h1, fromEnd_of_length_le (by omega)]
  · rw [h.fcb, frameByte_of_length_le (by omega)]
  · rw [h.b2, frameByte_of_length_le (by omega)]

/-- The first four answers to bytes are ACK, and PAY follows only when all four are there. -/
theorem byteWords_ack_pay (f : List Byte) :
    (∀ r ∈ (byteWords f).take 4, r = 0x0000) ∧ (∀ r ∈ (byteWords f).drop 4, hi r = 0x02) := by
  rw [byteWords]
  by_cases hf : 4 ≤ f.length
  · rw [min_eq_right hf, List.take_left' List.length_replicate, List.drop_left' List.length_replicate]
    exact ⟨fun r hr => List.eq_of_mem_replicate hr, fun r hr => hi_of_mem_wordsOfKind hr⟩
  · rw [drop_beforeCrc_of_length_le (by omega), wordsOfKind_nil, List.append_nil,
      List.drop_eq_nil_of_le (by rw [List.length_replicate]; omega)]
    exact ⟨fun r hr => List.eq_of_mem_replicate (List.mem_of_mem_take hr), nofun⟩

/-- Settles O50: the verifier invariant's answers. -/
theorem payloadStreamIsTheFrameData : Obligations.PayloadStreamIsTheFrameData := by
  intro s f
  obtain ⟨t, hfold, -, hresp⟩ := foldExec_receive (present [] s) f
  obtain ⟨hack, hpay⟩ := byteWords_ack_pay f
  refine ⟨t, 0x0000 :: byteWords f, (runCommands_eq_foldExec _ s).trans hfold, hresp, ?_, payBytes_ack_byteWords f, ?_, hpay⟩
  · rw [List.length_cons, byteWords_length]
  · exact List.forall_mem_cons.2 ⟨rfl, hack⟩

/-! ### Each frame by itself (R140) -/

/-- A command other than RDST takes states that differ in the sticky flags to states that differ in them alone. -/
theorem exec_withSticky_eq {i : Instr} (hi : i ≠ .rdst) {s t : State} (h : exec i s = .next t) (a b : Bool) :
    ∃ a' b', exec i (withSticky a b s) = .next (withSticky a' b' t) := by
  obtain ⟨u, hu, hrest, hresp⟩ := exec_withSticky h a b
  have hut : u = withSticky u.eIll u.eSeq t := by
    rw [← hrest, ← hresp hi]
    rfl
  exact ⟨u.eIll, u.eSeq, hu.trans (congrArg Host.Outcome.next hut)⟩

theorem foldExec_withSticky {cs : List Instr} (hcs : .rdst ∉ cs) {s t : State} (h : foldExec cs s = .next t) (a b : Bool) :
    ∃ a' b', foldExec cs (withSticky a b s) = .next (withSticky a' b' t) := by
  induction cs generalizing s a b with
  | nil =>
    cases h
    exact ⟨a, b, rfl⟩
  | cons i cs ih =>
    obtain ⟨hi, htail⟩ := not_or.1 (mt List.mem_cons.2 hcs)
    obtain ⟨u, hu⟩ := exec_total i s
    obtain ⟨a', b', hu'⟩ := exec_withSticky_eq (Ne.symm hi) hu a b
    rw [foldExec_cons hu] at h
    rw [foldExec_cons hu']
    exact ih htail h a' b'

/-- What VBEG leaves: a cleared block in CHK, with its answer. -/
def afterVbeg (s : State) : State := respond .ack (setMode .chk (clearFrame s))

/-- Two blocks after VBEG differ in the sticky flags and in the words already answered. -/
theorem afterVbeg_eq_afterVbeg {s u : State} (hmy : s.myAddr = u.myAddr) (hin : s.inputs = u.inputs) :
    afterVbeg u = withSticky u.eIll u.eSeq (withResponses (u.responses ++ [0x0000]) (afterVbeg s)) := by
  rw [afterVbeg, clearFrame_eq_clearFrame hmy hin]
  rfl

/-- Settles O55: no command but RDST reads what the two blocks after VBEG differ in. -/
theorem frameOutcomeIndependentOfHistory : Obligations.FrameOutcomeIndependentOfHistory := by
  intro s u cs hmy hcs
  obtain ⟨t, rs, ht, hrs, -⟩ := foldExec_total cs (afterVbeg (present [] s))
  obtain ⟨a, b, hv⟩ := foldExec_withSticky hcs (foldExec_withResponses ht hrs (u.responses ++ [0x0000])) u.eIll u.eSeq
  have hagree : afterVbeg (present [] u) = _ := afterVbeg_eq_afterVbeg (s := present [] s) hmy rfl
  refine ⟨t, withSticky a b (withResponses (u.responses ++ [0x0000] ++ rs) t), 0x0000 :: rs, ?_, ?_,
    hrs.trans (List.append_assoc ..), List.append_assoc .., rfl⟩
  · rw [runCommands_eq_foldExec, foldExec_cons (exec_vbeg _)]
    exact ht
  · rw [runCommands_eq_foldExec, foldExec_cons (exec_vbeg _)]
    exact (congrArg (foldExec cs) hagree).trans hv

end Sys2Proof.Machine
end

section
/-! PROOFS. The statements on whole frames (45_envelope.md section 3, 42_generate.md section 6) and on F_CRC as the residue test
(43_verify.md section 4), and before them what VEND makes of a received frame, and the two CRC bytes of a frame. -/

namespace Sys2Proof.Machine

/-! ### What VEND makes of a received frame (R142, R182) -/

/-- The registers hold what `rtu_decode` gives. -/
structure Holds (d : Decoded) (t : State) : Prop where
  fShort : t.fShort = d.fShort
  fLong : t.fLong = d.fLong
  fCrc : t.fCrc = d.fCrc
  fAddr : t.fAddr = d.fAddr
  addr : t.addr = d.addr
  fcb : t.fcb = d.fcb
  fc : functionCode t.fcb = d.fc
  b2 : t.b2 = d.b2
  ftype : t.ftype = d.ftype
  plen : t.plen = d.plen
  crc : t.crc = d.crc

theorem Receiving.cnt_lt_iff {f : List Byte} {m : Byte} {t : State} (h : Receiving f m t) {k : Nat} (hk : k ≤ 257) :
    t.cnt.toNat < k ↔ f.length < k := by
  rw [h.cnt]
  omega

theorem Receiving.frameShort {f : List Byte} {m : Byte} {t : State} (h : Receiving f m t) :
    frameShort t = (rtuDecode f m).fShort := by
  rw [Bool.eq_iff_iff, frameShort_iff, h.cnt_lt_iff (by decide)]
  exact (flagShort_iff f.length).symm

theorem Receiving.frameLong {f : List Byte} {m : Byte} {t : State} (h : Receiving f m t) :
    frameLong t = (rtuDecode f m).fLong := by
  rw [Bool.eq_iff_iff, frameLong_iff]
  exact (h.le_cnt_iff (k := 257) le_rfl).trans (flagLong_iff f.length).symm

/-- The delay line holds the CRC field of a frame that has one. -/
theorem Receiving.joinBytes {f : List Byte} {m : Byte} {t : State} (h : Receiving f m t) (hf : 2 ≤ f.length) :
    joinBytes t.h0 t.h1 = crcField f := by
  have hidx : f.length - 1 - 1 = f.length - 2 := by omega
  rw [h.h0, h.h1, fromEnd_eq_frameByte (by omega), fromEnd_eq_frameByte (by omega), hidx]
  rfl

theorem Receiving.frameCrc {f : List Byte} {m : Byte} {t : State} (h : Receiving f m t) :
    frameCrc t = (rtuDecode f m).fCrc := by
  have hdec : (rtuDecode f m).fCrc = flagCrc f.length (crc16 (beforeCrc f)) (crcField f) := rfl
  rw [hdec, Bool.eq_iff_iff, Machine.frameCrc, flagCrc_iff, flagCrc_iff, h.crc, h.cnt_lt_iff (by decide)]
  by_cases hf : f.length < 2
  · simp only [hf, true_or]
  · rw [h.joinBytes (by omega)]

theorem Receiving.frameAddr {f : List Byte} {m : Byte} {t : State} (h : Receiving f m t) :
    frameAddr t = (rtuDecode f m).fAddr := by
  rw [Bool.eq_iff_iff, frameAddr_iff, h.cnt_lt_iff (by decide), h.addr, h.myAddr]
  exact (flagAddr_iff ..).symm

theorem Receiving.frameVerdict {f : List Byte} {m : Byte} {t : State} (h : Receiving f m t) :
    frameVerdict t = (rtuDecode f m).verdict := by
  rw [Machine.frameVerdict, h.frameShort, h.frameLong, h.frameCrc, h.frameAddr]
  rfl

theorem Receiving.payloadLength {f : List Byte} {m : Byte} {t : State} (h : Receiving f m t) :
    payloadLength t.cnt.toNat = (rtuDecode f m).plen := by
  have hdec : (rtuDecode f m).plen = Machine.payloadLength f.length := rfl
  rw [hdec, h.cnt]
  by_cases hf : f.length ≤ 257
  · rw [min_eq_left hf]
  · rw [payloadLength_eq_zero (.inr (by omega)), payloadLength_eq_zero (.inr (by omega))]

/-- VEND records what `rtu_decode` gives of the whole frame. -/
theorem Receiving.recordVerdict {f : List Byte} {m : Byte} {t : State} (h : Receiving f m t) :
    Holds (rtuDecode f m) (recordVerdict t) where
  fShort := h.frameShort
  fLong := h.frameLong
  fCrc := h.frameCrc
  fAddr := h.frameAddr
  addr := h.addr
  fcb := h.fcb
  fc := congrArg functionCode h.fcb
  b2 := h.b2
  ftype := by
    rw [recordVerdict_ftype, h.frameVerdict, h.fcb]
    rfl
  plen := h.payloadLength
  crc := h.crc

theorem Receiving.exec_vend {f : List Byte} {m : Byte} {t : State} (h : Receiving f m t) :
    ∃ u, exec .vend t = .next u ∧ Holds (rtuDecode f m) u ∧ u.mode = .idle ∧
      u.responses = t.responses ++ [0x03#8 ++ verdictCode (rtuDecode f m).verdict] := by
  have hheld := h.recordVerdict
  refine ⟨_, exec_vend_chk h.mode, { hheld with }, rfl, ?_⟩
  rw [h.frameVerdict]
  rfl

/-- The frame's data is all that is left between the first two and the last two bytes, also of a short frame. -/
theorem rtuDecode_payload (f : List Byte) (m : Byte) : (rtuDecode f m).payload = (beforeCrc f).drop 2 := by
  have hdec : (rtuDecode f m).payload = if 4 ≤ f.length then (beforeCrc f).drop 2 else [] := rfl
  rw [hdec]
  split
  · rfl
  · exact (drop_beforeCrc_of_length_le (by omega)).symm

/-! ### The readout after VEND (R160 to R167) -/

/-- The reads in the order of their opcodes. -/
def allReads : List Instr := [.rdst, .rdaddr, .rdfc, .rdexc, .rdtyp, .rdlen, .rdcrl, .rdcrh]

/-- The reads answer STATUS and what the registers hold. -/
theorem Holds.allReads_answers {d : Decoded} {t : State} (h : Holds d t) :
    allReads.map (fun i => responseWord (commandAnswer i t)) =
      [0x04#8 ++ statusByte t, 0x04#8 ++ d.addr, 0x04#8 ++ d.fc, 0x04#8 ++ d.b2, 0x04#8 ++ (frameTypeCode d.ftype).setWidth 8,
        0x04#8 ++ d.plen, 0x04#8 ++ lo d.crc, 0x04#8 ++ hi d.crc] := by
  rw [← h.addr, ← h.fc, ← h.b2, ← h.ftype, ← h.plen, ← h.crc]
  rfl

/-- STATUS in IDLE shows MODE 0 and the four result flags (R22). -/
theorem statusByte_of_idle {t : State} (hm : t.mode = .idle) :
    (statusByte t).extractLsb' 6 2 = 0 ∧ (statusByte t).getLsbD 3 = t.fAddr ∧ (statusByte t).getLsbD 2 = t.fCrc ∧
      (statusByte t).getLsbD 1 = t.fLong ∧ (statusByte t).getLsbD 0 = t.fShort := by
  rw [statusByte_eq_shiftLeft_or]
  refine ⟨?_, by simp, by simp, by simp, by simp⟩
  ext i hi
  rw [BitVec.getElem_extractLsb']
  interval_cases i <;> simp [hm, modeCode]

/-- Settles O52: the block holds the frame before VEND, VEND records what `rtu_decode` gives of it, and the reads answer that. -/
theorem verifySequenceMatchesRtuDecode : Obligations.VerifySequenceMatchesRtuDecode := by
  intro s f before hbefore
  obtain ⟨t, rs, hfold, hreceiving, hrs, hlen, hadds⟩ := foldExec_receive_effective (present [] s) hbefore
  obtain ⟨u, hvend, hheld, hidle, hresp⟩ := hreceiving.exec_vend
  have hrun := (foldExec_append hfold _).trans ((foldExec_cons hvend _).trans (foldExec_reads (cs := allReads) (by decide) u))
  refine ⟨_, rs, statusByte u, (runCommands_eq_foldExec _ s).trans hrun, ?_, hlen, ?_, fun r hr => ?_, hidle, hheld.fShort,
    hheld.fLong, hheld.fCrc, hheld.fAddr, ?_⟩
  · show u.responses ++ _ = _
    rw [hresp, hrs, hheld.allReads_answers, List.append_assoc]
    rfl
  · rw [rtuDecode_payload, ← payBytes_ack_byteWords]
    exact hadds.bytesOfKind_eq (by decide) (by decide)
  · rcases hadds.mem hr with hmem | hack | hval
    · exact (List.mem_cons.1 hmem).elim .inl fun hbyte => (mem_byteWords hbyte).imp_right .inl
    · exact .inl hack
    · exact .inr (.inr hval)
  · have hstatus := statusByte_of_idle hidle
    rwa [hheld.fAddr, hheld.fCrc, hheld.fLong, hheld.fShort] at hstatus

/-! ### The two CRC bytes of a frame (R42, R43) -/

/-- A frame of two bytes or more is what stands before its CRC field, and the field's two bytes. -/
theorem beforeCrc_append_crcField {f : List Byte} (hf : 2 ≤ f.length) : beforeCrc f ++ crcBytes (crcField f) = f := by
  have hfield : f.drop (f.length - 2) = crcBytes (crcField f) := by
    have hlast : f.length - 2 + 1 = f.length - 1 := by omega
    have hend : f.length - 2 + 1 + 1 = f.length := by omega
    have hbytes : crcBytes (crcField f) = [frameByte f (f.length - 2), frameByte f (f.length - 1)] := by
      rw [crcBytes, crcField, joinBytes, lo_append, hi_append]
    rw [List.drop_eq_getElem_cons (by omega), List.drop_eq_getElem_cons (by omega), hend, List.drop_length, hbytes, frameByte,
      frameByte, List.getD_eq_getElem _ _ (by omega), List.getD_eq_getElem _ _ (by omega)]
    simp only [hlast]
  rw [beforeCrc, ← hfield, List.take_append_drop]

theorem beforeCrc_append_crcBytes (g : List Byte) (c : Word) : beforeCrc (g ++ crcBytes c) = g :=
  List.take_left' (by simp [crcBytes])

theorem crcField_append_crcBytes (g : List Byte) (c : Word) : crcField (g ++ crcBytes c) = c := by
  have hlast : frameByte (g ++ crcBytes c) ((g ++ crcBytes c).length - 1) = hi c := by simp [frameByte, crcBytes]
  have hprev : frameByte (g ++ crcBytes c) ((g ++ crcBytes c).length - 2) = lo c := by simp [frameByte, crcBytes]
  rw [crcField, hlast, hprev, joinBytes_hi_lo]

/-- The residue test: a frame's CRC is 0 exactly when its CRC field is the CRC of the bytes before. -/
theorem crc16_eq_zero_iff {f : List Byte} (hf : 2 ≤ f.length) : crc16 f = 0x0000 ↔ crc16 (beforeCrc f) = crcField f := by
  have hcrc : crc16 f = (crcBytes (crcField f)).foldl crcUpd (crc16 (beforeCrc f)) := by
    rw [← crc16_append, beforeCrc_append_crcField hf]
  have hown : (crcBytes (crcField f)).foldl crcUpd (crcField f) = 0x0000 := crcUpd_own_bytes _
  rw [hcrc, ← hown]
  exact (foldl_crcUpd_injective _).eq_iff

/-- Settles O54: VEND compares the CRC register with the CRC field, which is the residue test. -/
theorem crcFlagIsTheResidueTest : Obligations.CrcFlagIsTheResidueTest := by
  intro s f
  obtain ⟨t, hfold, hreceiving, -⟩ := foldExec_receive (present [] s) f
  obtain ⟨u, hvend, hheld, -⟩ := hreceiving.exec_vend
  have hflag : u.fCrc = true ↔ f.length < 2 ∨ crc16 (beforeCrc f) ≠ crcField f := by
    rw [hheld.fCrc]
    exact flagCrc_iff ..
  refine ⟨u, ?_, fun hf => ?_, fun hf => hflag.2 (.inl hf)⟩
  · rw [runCommands_eq_foldExec]
    exact (foldExec_append hfold [.vend]).trans (foldExec_cons hvend [])
  · rw [crc16_eq_zero_iff hf, ← Bool.not_eq_true, hflag, not_or, not_not]
    exact and_iff_right hf.not_gt

/-! ### Decoding an encoded frame (R185) -/

theorem beforeCrc_rtuEncode (x : FrameSpec) : beforeCrc (rtuEncode x) = frameHead x := beforeCrc_append_crcBytes _ _

/-- The flags of an encoded frame: it is never short and its CRC is right. -/
theorem rtuDecode_rtuEncode_verdict (x : FrameSpec) (m : Byte) :
    (rtuDecode (rtuEncode x) m).verdict =
      if 252 < x.body.length then .long else if x.addr ≠ m ∨ x.addr = 0x00 then .notme else .ok := by
  have hlen := rtuEncode_length x
  have hdec : (rtuDecode (rtuEncode x) m).verdict = verdict (flagShort (rtuEncode x).length) (flagLong (rtuEncode x).length)
      (flagCrc (rtuEncode x).length (crc16 (beforeCrc (rtuEncode x))) (crcField (rtuEncode x)))
      (flagAddr (rtuEncode x).length x.addr m) := rfl
  have hshort : ¬ x.body.length + 4 < 4 := by omega
  have hlong : 256 < x.body.length + 4 ↔ 252 < x.body.length := by omega
  have hcrc : ¬ (x.body.length + 4 < 2 ∨ crc16 (beforeCrc (rtuEncode x)) ≠ crcField (rtuEncode x)) := by
    rw [beforeCrc_rtuEncode, rtuEncode, crcField_append_crcBytes]
    simp
  have hnone : ¬ x.body.length + 4 < 1 := by omega
  simp only [hdec, verdict, flagShort_iff, flagLong_iff, flagCrc_iff, flagAddr_iff, hlen, if_neg hshort, if_neg hcrc, hlong, hnone,
    false_or]

/-- A function byte with the exception flag set has the same function code, and says exception. -/
theorem functionCode_markException (d : Byte) : functionCode (markException d) = d &&& 0x7F := by
  revert d
  decide

theorem exceptionBit_markException (d : Byte) : (markException d).getLsbD 7 = true := by
  rw [markException, BitVec.getLsbD_or]
  simp

/-- The function byte of an encoded frame. -/
def functionByte (x : FrameSpec) : Byte := if x.exception then markException x.fc else x.fc

theorem functionCode_functionByte (x : FrameSpec) : functionCode (functionByte x) = x.fc &&& 0x7F := by
  rw [functionByte]
  split
  · exact functionCode_markException x.fc
  · rfl

theorem functionByte_getLsbD_seven (x : FrameSpec) :
    (functionByte x).getLsbD 7 = true ↔ x.exception = true ∨ x.fc.getLsbD 7 = true := by
  rw [functionByte]
  split
  · next hexc => simp [hexc, exceptionBit_markException]
  · next hexc => simp [hexc]

/-- Settles O53: the verdict of an encoded frame, and the parts of the frame. -/
theorem decodeOfEncodeRoundTrip : Obligations.DecodeOfEncodeRoundTrip := by
  intro x m
  have hverdict := rtuDecode_rtuEncode_verdict x m
  refine ⟨fun hfits hmine hnonzero => ?_, fun hfits hother => ?_, fun hlong => ?_⟩
  · have hok : (rtuDecode (rtuEncode x) m).verdict = .ok := by
      rw [hverdict, if_neg hfits.not_gt, if_neg (not_or.2 ⟨not_not.2 hmine, hnonzero⟩)]
    have htype : (rtuDecode (rtuEncode x) m).ftype = frameTypeOf (rtuDecode (rtuEncode x) m).verdict (functionByte x) := rfl
    have hplen : (rtuDecode (rtuEncode x) m).plen = payloadLength (rtuEncode x).length := rfl
    refine ⟨hok, rfl, functionCode_functionByte x, ?_, ?_, ?_⟩
    · rw [rtuDecode_payload, beforeCrc_rtuEncode]
      rfl
    · rw [hplen, rtuEncode_length, payloadLength_toNat (by omega) (by omega)]
      omega
    · rw [htype, hok, frameTypeOf_ok]
      exact if_congr (functionByte_getLsbD_seven x) rfl rfl
  · rw [hverdict, if_neg hfits.not_gt, if_pos hother]
  · rw [hverdict, if_pos hlong]

/-! ### A generated frame at a verifier (42_generate.md section 6) -/

/-- The run of a verified frame, from VBEG to VEND. -/
theorem runCommands_vframe (f : List Byte) (s : State) :
    ∃ v, runCommands (expand (.vframe f)) s = .next v ∧ Holds (rtuDecode f s.myAddr) v ∧
      v.responses = s.responses ++ 0x0000 :: byteWords f ++ [0x03#8 ++ verdictCode (rtuDecode f s.myAddr).verdict] := by
  obtain ⟨t, hfold, hreceiving, hresp⟩ := foldExec_receive (present [] s) f
  obtain ⟨v, hvend, hheld, -, hv⟩ := hreceiving.exec_vend
  refine ⟨v, ?_, hheld, ?_⟩
  · rw [runCommands_eq_foldExec]
    exact (foldExec_append hfold [.vend]).trans (foldExec_cons hvend [])
  · rw [hv, hresp]
    rfl

/-- Settles O57: the generate sequence puts out `rtu_encode` of the frame, the verify sequence gives `rtu_decode` of that, and the
two functions undo each other. -/
theorem generatedFrameIsAccepted : Obligations.GeneratedFrameIsAccepted := by
  rintro s u a fc body hnonzero rfl hfits
  obtain ⟨t, rs, hrun, hrs, hwire⟩ := runCommands_encode ⟨u.myAddr, false, fc, body⟩ s
  obtain ⟨v, hverify, hheld, hv⟩ := runCommands_vframe (rtuEncode ⟨u.myAddr, false, fc, body⟩) u
  obtain ⟨haccepted, -, -⟩ := decodeOfEncodeRoundTrip ⟨u.myAddr, false, fc, body⟩ u.myAddr
  obtain ⟨hok, haddr, -, hpayload, hplen, -⟩ := haccepted hfits rfl hnonzero
  refine ⟨t, v, rs, 0x0000 :: byteWords (rtuEncode ⟨u.myAddr, false, fc, body⟩), hrun, hrs, hwire ▸ hverify, ?_,
    (payBytes_ack_byteWords _).trans ?_, hheld.addr.trans haddr, hheld.fcb, ?_⟩
  · rw [hv, hok]
    rfl
  · rw [← rtuDecode_payload _ u.myAddr, hpayload]
  · rw [hheld.plen, hplen]

end Sys2Proof.Machine
end
